-- ==== Sys2Proof/Word.lean ====
section
/-! DEFINITION. The words of the block (00_scope.md R10, R14, R15; 20_memory.md R52, R73). -/

namespace Sys2Proof

/-- A byte: every operand of a host operation and every byte on the wire (R10). -/
abbrev Byte := BitVec 8

/-- Half a byte, what one enable pulse transfers (00_scope.md glossary). -/
abbrev Nibble := BitVec 4

/-- The low 16 bits of the platform's millisecond counter (R10, R12). -/
abbrev Millis16 := BitVec 16

/-- The platform's pin identifiers, an open type with decidable equality (R8). -/
abbrev PinId := Nat

/-- An electrical level (R15). -/
inductive Level where
  | low
  | high
deriving DecidableEq, Repr, Inhabited

/-- The level a bit is driven at: HIGH for 1 (20_memory.md R54). -/
def Level.ofBool : Bool → Level
  | true => .high
  | false => .low

/-- `pressed(l)` is `l = LOW` (R9, R15). -/
def Level.pressed (l : Level) : Bool := l == .low

/-- The register-select side of a transfer: command or data (R16, R73). -/
inductive Rs where
  | cmd
  | data
deriving DecidableEq, Repr, Inhabited

/-- RS is asserted for data and de-asserted for commands (R73). -/
def Rs.asserted : Rs → Bool
  | .cmd => false
  | .data => true

end Sys2Proof
end

