-- ==== Sys2Proof/Config.lean ====
section
/-! DEFINITION. The construction parameters (00_scope.md R8) and the free values: what the spec leaves to the
platform, as opaque constants that no proof can see through. -/

namespace Sys2Proof

/-- P_DATA_PIN[0..3] (R8). -/
structure DataPins where
  d0 : PinId
  d1 : PinId
  d2 : PinId
  d3 : PinId
deriving DecidableEq, Repr, Inhabited

/-- The four data pins in index order. -/
def DataPins.toList (d : DataPins) : List PinId := [d.d0, d.d1, d.d2, d.d3]

/-- P_BUTTON_PIN[0..4] (R8). -/
structure ButtonPins where
  p0 : PinId
  p1 : PinId
  p2 : PinId
  p3 : PinId
  p4 : PinId
deriving DecidableEq, Repr, Inhabited

/-- The five button pins in index order. -/
def ButtonPins.toList (b : ButtonPins) : List PinId := [b.p0, b.p1, b.p2, b.p3, b.p4]

/-- P_BUTTON_PIN[b]. -/
def ButtonPins.get (p : ButtonPins) (b : Fin 5) : PinId :=
  match b with
  | 0 => p.p0
  | 1 => p.p1
  | 2 => p.p2
  | 3 => p.p3
  | 4 => p.p4

/-- P_DEFAULT_GLYPHS: eight glyphs of eight bytes (R8). -/
abbrev Glyphs := Vector (Vector Byte 8) 8

/-- The parameters of R8, fixed for the lifetime of the block (10_state.md R34). They are arguments of construction,
held in State as plain data, so that a statement about every state is a statement about every choice of them. -/
structure Params where
  /-- P_RS_PIN -/
  rsPin : PinId
  /-- P_EN_PIN -/
  enPin : PinId
  /-- P_DATA_PIN[0..3] -/
  dataPin : DataPins
  /-- P_BUTTON_PIN[0..4] -/
  buttonPin : ButtonPins
  /-- P_CTRL_ACTIVE_LOW: false = asserted is electrically HIGH. -/
  ctrlActiveLow : Bool
  /-- P_DEFAULT_GLYPHS -/
  defaultGlyphs : Glyphs
  /-- P_WAIT_CONSUMES_LATCH -/
  waitConsumesLatch : Bool
  /-- The optional P_WIRE_EXACT (92_eei_decisions.md D39): true is the spec's choice. -/
  wireExact : Bool
deriving DecidableEq, Repr, Inhabited

/-- The default glyph bitmaps, which are not in the source (R8, U16). No value: every glyph byte is open. -/
opaque Config.defaultGlyphs : Glyphs

/-- Whether a wait clears the latch, which the source does not tell (D23, U18). No value. -/
opaque Config.waitConsumesLatch : Bool

/-- The level the `n`-th event of the run reads, if that event is a `Read` and the platform's list of inputs is used up
(R12, U10). A free value. -/
opaque Config.freeLevel : Nat → Level

/-- The value of a `Millis` draw at event number `n`, likewise (R12, U11). A free value. -/
opaque Config.freeMillis : Nat → Millis16

/-- What the EN transition out of UNDEF at event number `n` makes the controller latch: nothing, or an unspecified
nibble (42_init.md R143, U9). A free value. -/
opaque Config.powerUpTransfer : Nat → Option Nibble

/-- Which of the four data lines a pressed button shorts at event number `n`; read only when `wireExact` is false
(D39, U13). A free value. -/
opaque Config.pressedLines : Nat → Nibble

/-- What the shorted lines then carry (D39). A free value. -/
opaque Config.shortedLines : Nat → Nibble

/-- What is left open of the display controller after it has met a transfer to which the spec gives no meaning. -/
structure FreeController where
  ac : BitVec 7
  /-- is the target CGRAM? -/
  cgramTarget : Bool
  ddram : Nat → Option Byte
  cgram : Nat → Option Byte
  id : Bool
  s : Bool
  d : Bool
  c : Bool
  b : Bool
  dl : Bool
  n : Bool
  f : Bool
  shift : Int
deriving Inhabited

/-- The display controller after the `n`-th such transfer: what it does then "is the controller's business"
(30_encoding.md R79). A free value. -/
opaque Config.controllerAfterMisread : Nat → FreeController

end Sys2Proof
end

