-- ==== Sys2Proof/Machine/Params.lean ====
section
/-! DEFINITION. What the construction parameters mean (00_scope.md R8, R9, R14; 10_state.md R34), and the fixed
constants of R9. -/

namespace Sys2Proof.Machine

open Sys2Proof

/-! ### The constants of R9 -/

/-- NUM_BUTTONS -/
def NUM_BUTTONS : Nat := 5
/-- ROW_SLOTS -/
def ROW_SLOTS : Nat := 4
/-- POLL_MS: the fewest milliseconds between two samples. -/
def POLL_MS : Nat := 5
/-- DEBOUNCE_THRESHOLD: a transition is accepted when `run > 10`. -/
def DEBOUNCE_THRESHOLD : Byte := 10#8
/-- REPEAT_INITIAL, in ticks. -/
def REPEAT_INITIAL : Byte := 100#8
/-- REPEAT_STEADY, in ticks. -/
def REPEAT_STEADY : Byte := 30#8
/-- T_SETTLE_US: after every change of the bus direction. -/
def T_SETTLE_US : Nat := 10
/-- T_POWERUP_US -/
def T_POWERUP_US : Nat := 50000
/-- T_INIT_US[0] -/
def T_INIT_0_US : Nat := 4500
/-- T_INIT_US[1] -/
def T_INIT_1_US : Nat := 4500
/-- T_INIT_US[2] -/
def T_INIT_2_US : Nat := 150
/-- T_EN_PRE_US -/
def T_EN_PRE_US : Nat := 1
/-- T_EN_WIDTH_US -/
def T_EN_WIDTH_US : Nat := 1
/-- T_EN_POST_US -/
def T_EN_POST_US : Nat := 100
/-- T_SLOW_CMD_US: after clear and home. -/
def T_SLOW_CMD_US : Nat := 2000

/-! ### Polarity, validity, defaults -/

/-- `elec(a)`: the electrical level of a control line whose logical assertion is `a` (R14). -/
def elec (P : Params) (a : Bool) : Level := Level.ofBool (a ^^ P.ctrlActiveLow)

end Sys2Proof.Machine

namespace Sys2Proof

/-- The check of 10_state.md R34: RS, EN and the four data pins are six distinct pins, and no button pin is RS or
EN. -/
def Params.valid (P : Params) : Bool :=
  decide ([P.rsPin, P.enPin, P.dataPin.d0, P.dataPin.d1, P.dataPin.d2, P.dataPin.d3].Nodup)
    && P.buttonPin.toList.all (fun p => p != P.rsPin && p != P.enPin)

/-- P_DEFAULT_GLYPHS[k][j]. -/
def Params.glyphByte (P : Params) (k j : Fin 8) : Byte := (P.defaultGlyphs.get k).get j

/-- The data lines a button is wired to: bit i is set iff P_DATA_PIN[i] is some P_BUTTON_PIN[b]. -/
def Params.sharedLines (P : Params) : Nibble :=
  BitVec.ofBool (P.buttonPin.toList.contains P.dataPin.d3) ++ BitVec.ofBool (P.buttonPin.toList.contains P.dataPin.d2)
    ++ BitVec.ofBool (P.buttonPin.toList.contains P.dataPin.d1)
    ++ BitVec.ofBool (P.buttonPin.toList.contains P.dataPin.d0)

/-- The parameters `State.reset` is constructed with. The button pins are the default of R8; the pin numbers and the
polarity are a DESIGN CHOICE (log 3), `wireExact` is the spec's own choice D39, and the glyphs and the wait's latch
rule have no value (log 4). -/
def Params.default : Params where
  rsPin := 0
  enPin := 1
  dataPin := ⟨2, 3, 4, 5⟩
  buttonPin := ⟨2, 3, 4, 5, 6⟩
  ctrlActiveLow := false
  defaultGlyphs := Config.defaultGlyphs
  waitConsumesLatch := Config.waitConsumesLatch
  wireExact := true

end Sys2Proof
end

