-- ==== Sys2Proof/Machine/State.lean ====
section
/-! DEFINITION. The state of the machine: the block's state (10_state.md), the observation state of its pins, the event
trace, the wire to the display controller with the reference controller (20_memory.md R63), and what the outside will
call and answer. Everything is plain data. -/

namespace Sys2Proof.Machine

open Sys2Proof

/-! ### Control state (10_state.md §2) -/

/-- The phases of R22. -/
inductive Phase where
  | uninit
  | init
  | ready
deriving DecidableEq, Repr

/-- The fault codes of 60_exceptions.md R241, which the block's `fault` register holds. -/
inductive FaultCode where
  | notReady
  | alreadyBegun
  | badButton
  | badLines
  | busNotInput
  | illegalOp
  | badConfig
deriving DecidableEq, Repr

/-- The numbering of R241. -/
def FaultCode.code : FaultCode → Nat
  | .notReady => 1
  | .alreadyBegun => 2
  | .badButton => 3
  | .badLines => 4
  | .busNotInput => 5
  | .illegalOp => 6
  | .badConfig => 7

/-- The mode of the four data pins as the Bus Direction Controller last set it (R24). -/
inductive BusMode where
  | unknown
  | output
  | input
deriving DecidableEq, Repr

/-! ### Display State and Button State Vector (10_state.md §3, §4) -/

/-- `row_offsets[0..3]` (R28). -/
structure RowOffsets where
  r0 : Byte
  r1 : Byte
  r2 : Byte
  r3 : Byte
deriving DecidableEq, Repr

/-- One record of the Button State Vector (R30). -/
structure Button where
  /-- the accepted level -/
  last : Level
  /-- consecutive samples that differed from `last` -/
  run : Byte
  /-- the repeat countdown, in ticks -/
  rep : Byte
  /-- a pending pressed event -/
  latched : Bool
deriving DecidableEq, Repr

/-- The five records, indexed by button number (R20, R30). -/
structure Buttons where
  b0 : Button
  b1 : Button
  b2 : Button
  b3 : Button
  b4 : Button
deriving DecidableEq, Repr

/-! ### Pins and events (00_scope.md R12, 10_state.md R33) -/

/-- The modes the block can set a pin to (R12). -/
inductive PinDir where
  | output
  | inputPullup
deriving DecidableEq, Repr

/-- `pin_mode[p]` (R33). -/
inductive PinMode where
  | unknown
  | output
  | inputPullup
deriving DecidableEq, Repr

/-- What the block knows of one pin: its mode, and the level it drives, where `none` is UNDEF (R33). -/
structure Pin where
  mode : PinMode
  level : Option Level
deriving DecidableEq, Repr

/-- The pins the block has touched, by identifier, rising; a pin that is not listed is UNKNOWN and UNDEF (R33). -/
abbrev PinMap := List (PinId × Pin)

/-- The pin events of R12, in the order they happen. -/
inductive Event where
  | setMode (p : PinId) (m : PinDir)
  | drive (p : PinId) (l : Level)
  | delay (us : Nat)
  | read (p : PinId) (l : Level)
  | millis (t : Millis16)
deriving DecidableEq, Repr

/-! ### The wire and the reference controller (20_memory.md R52, R55, R63) -/

/-- What an enable pulse put on the wire. `powerUp` is the EN transition out of UNDEF of 42_init.md R143, which
admits both no transfer and a transfer of an unspecified nibble; it keeps the number of its event (log 7). -/
inductive WireItem where
  | transfer (rs : Rs) (n : Nibble)
  | powerUp (rs : Rs) (event : Nat)
deriving DecidableEq, Repr

/-- The controller memory the address counter points into (R63). -/
inductive Target where
  | ddram
  | cgram
deriving DecidableEq, Repr

/-- A memory of the display controller: the bytes written, by address, rising. A byte that nothing has written reads as
no value (log 10). -/
abbrev Memory := List Host.Cell

/-- The reference controller of R63. -/
structure Lcd where
  /-- address counter -/
  ac : BitVec 7
  target : Target
  ddram : Memory
  cgram : Memory
  /-- entry mode: address increments -/
  id : Bool
  /-- entry mode: display shifts on each data write -/
  s : Bool
  /-- display on -/
  d : Bool
  /-- cursor shown -/
  c : Bool
  /-- cursor blink -/
  b : Bool
  /-- 8-bit interface -/
  dl : Bool
  /-- two-line mode -/
  n : Bool
  /-- 5x10 font -/
  f : Bool
  /-- positions the display has been shifted, right positive (43_display_ops.md R175, R176; log 13) -/
  shift : Int
deriving DecidableEq, Repr

/-- The controller at power-on: the HD44780 family's reset values, 8-bit interface (PRESUMED, log 9); its memories hold
nothing that can be told (log 10). -/
def Lcd.powerOn : Lcd where
  ac := 0#7
  target := .ddram
  ddram := []
  cgram := []
  id := true
  s := false
  d := false
  c := false
  b := false
  dl := true
  n := false
  f := false
  shift := 0

/-! ### The whole state -/

/-- One entry of a program the host runs as text. -/
inductive HostText where
  /-- an assembler line (30_encoding.md R81) -/
  | line (text : String)
  /-- a `poll_until_held b` in progress (R82): its calls are made again unless the last of them returned true -/
  | polling (b : Byte)
deriving DecidableEq, Repr

/-- What the last completed host operation returned (30_encoding.md R70, result column). -/
inductive Result where
  | none
  | bool (v : Bool)
  | level (l : Level)
deriving DecidableEq, Repr

structure State where
  /-- the construction parameters (R8, R34) -/
  cfg : Params
  /-- R22 -/
  phase : Phase
  /-- R23 -/
  fault : Option FaultCode
  /-- R24 -/
  busMode : BusMode
  /-- R25 -/
  displayfunction : Byte
  /-- R26 -/
  displaycontrol : Byte
  /-- R27 -/
  displaymode : Byte
  /-- R28 -/
  rowOffsets : RowOffsets
  /-- R29 -/
  numlines : Byte
  /-- R30 -/
  btn : Buttons
  /-- R31 -/
  tLast : Millis16
  /-- R32 -/
  waitBtn : Option (Fin 5)
  /-- R33 -/
  pins : PinMap
  /-- the event trace, oldest first (R11, R12) -/
  trace : List Event
  /-- R11 -/
  result : Result
  /-- transfers the controller has latched and not yet acted on, oldest first (R52) -/
  wire : List WireItem
  /-- R63 -/
  lcd : Lcd
  /-- the model's own: how many transfers without a meaning the controller has met, which numbers its free values
  (log 20) -/
  misreads : Nat
  /-- the model's own: the bytes of the host operations still to be called, in R70's encoding (log 1) -/
  hostOps : List Byte
  /-- the model's own: the program text the host assembles into calls once `hostOps` is used up (logs 1, 25) -/
  hostLines : List HostText
  /-- the model's own: what the next `Read` draws return (log 6) -/
  readInputs : List Level
  /-- the model's own: what the next `Millis` draws return (log 6) -/
  millisInputs : List Millis16
deriving DecidableEq, Repr

/-- Why the machine stops without a next state. -/
inductive Fault where
  /-- Raised by every host operation and by WAIT_ITER when the block's sticky `fault` is set: by R241 nothing has a step
  then. Safe: the spec gives no further behaviour. -/
  | noStep (code : FaultCode)
  /-- Raised by a host operation that is run while a wait is pending: by R32 and R222 it has no step. `step` never gets
  there, since it iterates the wait first. Safe. -/
  | waitPending (b : Fin 5)
deriving DecidableEq, Repr

/-- Why the machine refuses. -/
inductive Refusal where
  /-- Raised by no meaning: the instruction of this mnemonic has none. Safe. -/
  | notModelled (mnemonic : String)
  /-- Raised by `step` when the host calls nothing: the block does nothing on its own (R11, R21). Safe. -/
  | hostIdle
  /-- Raised by `step` when the host has given an operation's id and not all its operand bytes (R72). Safe. -/
  | incompleteOperation
  /-- Raised by `step` when the host's next line of text is no line of R81: a known name with operands it does not take
  or that cannot be read, or no name at all. An unknown name is ILLEGAL_OP instead, whatever follows it (60_exceptions.md
  R246). Safe. -/
  | malformedLine
deriving DecidableEq, Repr

/-- The Button State Vector at construction (R30, R271). -/
def Button.released : Button := ⟨.high, 0#8, 0#8, false⟩

/-- Construction, the block's reset (70_reset_and_hazards.md R270, R271): no pin event, the values of R271, and BAD_CONFIG
when the parameters break 10_state.md R34 (60_exceptions.md R247). That the display is powered on at this moment is a DESIGN
CHOICE (log 28), its registers' values then are PRESUMED (log 9). -/
def State.construct (P : Params) : State where
  cfg := P
  phase := .uninit
  fault := if P.valid then none else some .badConfig
  busMode := .unknown
  displayfunction := 0#8
  displaycontrol := 0#8
  displaymode := 0#8
  rowOffsets := ⟨0#8, 0#8, 0#8, 0#8⟩
  numlines := 0#8
  btn := ⟨.released, .released, .released, .released, .released⟩
  tLast := 0#16
  waitBtn := none
  pins := []
  trace := []
  result := .none
  wire := []
  lcd := .powerOn
  misreads := 0
  hostOps := []
  hostLines := []
  readInputs := []
  millisInputs := []

/-- The machine right after reset: construction with the default parameters (R270). -/
def State.reset : State := State.construct Params.default

end Sys2Proof.Machine
end

