-- ==== Sys2Proof/Machine/Ops.lean ====
section
/-! DEFINITION. The operations the meanings share: keyed lists in canonical form, the controller's memories, pins and
events (10_state.md R33, 20_memory.md R52), raising a fault (60_exceptions.md R241), the checks before an operation
(R242, R248) and the platform's draws (00_scope.md R12). -/

namespace Sys2Proof.Machine

open Sys2Proof

/-! ### Keyed lists -/

/-- The value at a key. -/
def assocGet {α : Type} (k : Nat) : List (Nat × α) → Option α
  | [] => none
  | (k', v) :: t => if k = k' then some v else assocGet k t

/-- Set the value at a key, keeping the keys strictly rising. -/
def assocSet {α : Type} (k : Nat) (v : α) : List (Nat × α) → List (Nat × α)
  | [] => [(k, v)]
  | (k', v') :: t =>
    if k < k' then (k, v) :: (k', v') :: t
    else if k = k' then (k, v) :: t
    else (k', v') :: assocSet k v t

/-- The keys rise strictly. -/
def rising {α : Type} : List (Nat × α) → Bool
  | [] => true
  | (k, _) :: t => t.all (fun c => decide (k < c.1)) && rising t

/-! ### The controller's memories (20_memory.md R50) -/

/-- One byte; `none` where nothing has been written (log 10). -/
def Memory.read (m : Memory) (a : Nat) : Option Byte := assocGet a m

/-- Write one byte. -/
def Memory.write (m : Memory) (a : Nat) (v : Byte) : Memory := assocSet a v m

/-- The canonical form of a memory of `size` bytes: addresses strictly rising and below `size`. An unlisted byte reads
as no value, so no entry equals what an unlisted address reads as. -/
def Memory.wf (size : Nat) (m : Memory) : Bool := rising m && m.all (fun c => decide (c.1 < size))

/-- Every byte of a memory of `size` bytes set to `v`. -/
def Memory.fill (size : Nat) (v : Byte) : Memory := (List.range size).map (fun a => (a, v))

/-- DDRAM has 128 bytes, CGRAM 64 (R50, R63). -/
def Target.size : Target → Nat
  | .ddram => 128
  | .cgram => 64

/-- The memory of a target. -/
def Lcd.memory (c : Lcd) : Target → Memory
  | .ddram => c.ddram
  | .cgram => c.cgram

/-- One byte of the controller's memories. -/
def Lcd.read (c : Lcd) (t : Target) (a : Nat) : Option Byte := Memory.read (c.memory t) a

/-! ### Buttons and row offsets -/

/-- `btn[b]`. -/
def Buttons.get (v : Buttons) (b : Fin 5) : Button :=
  match b with
  | 0 => v.b0
  | 1 => v.b1
  | 2 => v.b2
  | 3 => v.b3
  | 4 => v.b4

/-- `btn[b] <- r`. -/
def Buttons.set (v : Buttons) (b : Fin 5) (r : Button) : Buttons :=
  match b with
  | 0 => { v with b0 := r }
  | 1 => { v with b1 := r }
  | 2 => { v with b2 := r }
  | 3 => { v with b3 := r }
  | 4 => { v with b4 := r }

/-- `row_offsets[r]`, for a row that 20_memory.md R60 has clamped to 0..3. -/
def RowOffsets.get (o : RowOffsets) : Nat → Byte
  | 0 => o.r0
  | 1 => o.r1
  | 2 => o.r2
  | _ => o.r3

/-! ### Pins (10_state.md R33) -/

/-- A pin nothing has touched. -/
def Pin.untouched : Pin := ⟨.unknown, none⟩

/-- `pin_mode[p]` and `pin_level[p]`. -/
def PinMap.pin (m : PinMap) (p : PinId) : Pin := (assocGet p m).getD .untouched

/-- The canonical form: identifiers strictly rising, and no entry equal to an untouched pin. -/
def PinMap.wf (m : PinMap) : Bool := rising m && m.all (fun c => c.2 != Pin.untouched)

/-- The mode a direction sets. -/
def PinDir.mode : PinDir → PinMode
  | .output => .output
  | .inputPullup => .inputPullup

/-- What one event does to the pins (R33). A pin that changes its mode drives no level that is known (an input drives
none at all, log 14). -/
def applyEvent (m : PinMap) : Event → PinMap
  | .setMode p d => assocSet p ⟨d.mode, none⟩ m
  | .drive p l => assocSet p { PinMap.pin m p with level := some l } m
  | .delay _ => m
  | .read _ _ => m
  | .millis _ => m

/-- The pins after a list of events. -/
def pinsAfter (m : PinMap) (es : List Event) : PinMap := es.foldl applyEvent m

/-! ### The wire (20_memory.md R52) -/

/-- Bit i of a transfer: is P_DATA_PIN[i] HIGH? -/
def lineHigh (m : PinMap) (p : PinId) : Bool := (PinMap.pin m p).level == some .high

/-- The nibble on the data lines at event number `n` (R52, R54). When `wireExact` is false, a line that a pressed button
shorts carries a free value (D39, log 21). -/
def nibbleOnWire (P : Params) (n : Nat) (m : PinMap) : Nibble :=
  let driven : Nibble :=
    BitVec.ofBool (lineHigh m P.dataPin.d3) ++ BitVec.ofBool (lineHigh m P.dataPin.d2)
      ++ BitVec.ofBool (lineHigh m P.dataPin.d1) ++ BitVec.ofBool (lineHigh m P.dataPin.d0)
  if P.wireExact then driven
  else
    let shorted := Config.pressedLines n &&& P.sharedLines
    (driven &&& ~~~shorted) ||| (Config.shortedLines n &&& shorted)

/-- The RS side of a transfer: DATA iff the RS pin is at `elec(true)` (R52). -/
def rsOnWire (P : Params) (m : PinMap) : Rs :=
  if (PinMap.pin m P.rsPin).level = some (elec P true) then .data else .cmd

/-- What event number `n` puts on the wire (R52): a transfer at `Drive(EN, elec(false))` from `elec(true)`; both outcomes
from UNDEF; nothing otherwise. -/
def wireOfEvent (P : Params) (n : Nat) (m : PinMap) (e : Event) : List WireItem :=
  match e with
  | .drive p l =>
    if p = P.enPin ∧ l = elec P false then
      match (PinMap.pin m P.enPin).level with
      | none => [.powerUp (rsOnWire P m) n]
      | some was => if was = elec P true then [.transfer (rsOnWire P m) (nibbleOnWire P n m)] else []
    else []
  | _ => []

/-- What a list of events puts on the wire, from pins `m`, the first event being number `n`. -/
def wireAfter (P : Params) (n : Nat) (m : PinMap) : List Event → List WireItem
  | [] => []
  | e :: es => wireOfEvent P n m e ++ wireAfter P (n + 1) (applyEvent m e) es

/-- The transfers an item stands for: the power-up item takes the free value (42_init.md R143). -/
def WireItem.transfers : WireItem → List (Rs × Nibble)
  | .transfer rs n => [(rs, n)]
  | .powerUp rs event =>
    match Config.powerUpTransfer event with
    | none => []
    | some n => [(rs, n)]

/-- Everything the run has put on the wire. -/
def State.wireLog (s : State) : List WireItem := wireAfter s.cfg 0 [] s.trace

/-! ### Emitting events (00_scope.md R11, R14) -/

/-- Append events to the trace, with what they do to the pins and the wire. -/
def State.emit (s : State) (es : List Event) : State :=
  { s with
    trace := s.trace ++ es
    pins := pinsAfter s.pins es
    wire := s.wire ++ wireAfter s.cfg s.trace.length s.pins es }

/-! ### Faults and the checks before an operation (60_exceptions.md R241, R242, R248) -/

/-- `raise Fault(code)`: the sticky fault is set, no event is emitted and the operation ends (R14, R241). -/
def State.raise (s : State) (code : FaultCode) : State := { s with fault := some code }

/-- A host operation: no step once a fault is set (R241) or while a wait is pending (R32, R222); otherwise one atomic
transition. -/
def hostOp (s : State) (body : State → State) : Host.Outcome State Fault Refusal :=
  match s.fault with
  | some code => .fault (.noStep code)
  | none =>
    match s.waitBtn with
    | some b => .fault (.waitPending b)
    | none => .next (body s)

/-- The phase check of every operation but BEGIN (R242). -/
def whenReady (s : State) (body : State → State) : Host.Outcome State Fault Refusal :=
  hostOp s (fun s => if s.phase = .ready then body s else s.raise .notReady)

/-- `return v`: the operation ends with a result (R14). -/
def State.returning (s : State) (r : Result) : State := { s with result := r }

/-! ### The platform's draws (R12, R13) -/

/-- `draw Read(p)`: the platform's next level, or a free value where the list is used up (log 6). -/
def State.drawRead (s : State) (p : PinId) : Level × State :=
  match s.readInputs with
  | l :: rest => (l, { s with readInputs := rest }.emit [.read p l])
  | [] => (Config.freeLevel s.trace.length, s.emit [.read p (Config.freeLevel s.trace.length)])

/-- `draw Millis()`: likewise. -/
def State.drawMillis (s : State) : Millis16 × State :=
  match s.millisInputs with
  | t :: rest => (t, { s with millisInputs := rest }.emit [.millis t])
  | [] => (Config.freeMillis s.trace.length, s.emit [.millis (Config.freeMillis s.trace.length)])

end Sys2Proof.Machine
end

