-- ==== Sys2Proof/Machine/Flags.lean ====
section
/-! DEFINITION. The flag words of the Display State and the command bytes made from them (10_state.md R25 to R27;
30_encoding.md R74, R75). The bit positions are the HD44780 ones the spec takes (log 19). -/

namespace Sys2Proof.Machine

open Sys2Proof

/-! ### Family base values and flag bits (R74) -/

def CMD_CLEAR : Byte := 0x01#8
def CMD_HOME : Byte := 0x02#8
def CMD_ENTRY : Byte := 0x04#8
def CMD_DISPCTL : Byte := 0x08#8
def CMD_SHIFT : Byte := 0x10#8
def CMD_FUNC : Byte := 0x20#8
def CMD_CGRAM : Byte := 0x40#8
def CMD_DDRAM : Byte := 0x80#8

/-- displaymode: address increments. -/
def FLAG_ID : Byte := 0x02#8
/-- displaymode: autoscroll. -/
def FLAG_S : Byte := 0x01#8
/-- displaycontrol: display on. -/
def FLAG_D : Byte := 0x04#8
/-- displaycontrol: cursor shown. -/
def FLAG_C : Byte := 0x02#8
/-- displaycontrol: cursor blink. -/
def FLAG_B : Byte := 0x01#8
def SHIFT_DISPLAY : Byte := 0x08#8
def SHIFT_RIGHT : Byte := 0x04#8
/-- displayfunction: 8-bit interface. -/
def FLAG_DL : Byte := 0x10#8
/-- displayfunction: two-line mode. -/
def FLAG_N : Byte := 0x08#8
/-- displayfunction: 5x10 font. -/
def FLAG_F : Byte := 0x04#8

/-! ### Setting and clearing one flag (43_display_ops.md R165 to R174, D16) -/

def setFlag (w m : Byte) : Byte := w ||| m

def clearFlag (w m : Byte) : Byte := w &&& ~~~m

/-- The function-configuration word begin forms (42_init.md R146): DL = 0, N iff `lines > 1`, F iff `font_size ≠ 0` and
`lines = 1`. -/
def functionFlags (lines fontSize : Byte) : Byte :=
  0x00#8 ||| (if 1 < lines.toNat then FLAG_N else 0#8) ||| (if fontSize ≠ 0#8 ∧ lines = 1#8 then FLAG_F else 0#8)

/-! ### Command bytes (R75) -/

def functionSetByte (displayfunction : Byte) : Byte := CMD_FUNC ||| displayfunction

def displayControlByte (displaycontrol : Byte) : Byte := CMD_DISPCTL ||| displaycontrol

def entryModeByte (displaymode : Byte) : Byte := CMD_ENTRY ||| displaymode

def shiftByte (right : Bool) : Byte := CMD_SHIFT ||| SHIFT_DISPLAY ||| (if right then SHIFT_RIGHT else 0#8)

/-- The slot is masked to three bits (43_display_ops.md R177). -/
def cgramByte (slot : Byte) : Byte := CMD_CGRAM ||| ((slot &&& 0x7#8) <<< 3)

def ddramByte (addr : BitVec 7) : Byte := CMD_DDRAM ||| addr.setWidth 8

end Sys2Proof.Machine
end

