-- ==== Sys2Proof/Machine/Operands.lean ====
section
/-! DEFINITION. What the operands of the host operations mean (30_encoding.md R71; 20_memory.md R56, R60;
42_init.md R150). -/

namespace Sys2Proof.Machine

open Sys2Proof

/-- A button operand: an index below NUM_BUTTONS, or BAD_BUTTON (R71, 60_exceptions.md R243). -/
def buttonOperand (b : Byte) : Option (Fin 5) :=
  match b.toNat with
  | 0 => some 0
  | 1 => some 1
  | 2 => some 2
  | 3 => some 3
  | 4 => some 4
  | _ => none

/-- The row operand, clamped silently to the last valid row: `min(ROW_SLOTS, numlines) - 1` (R60, 43_display_ops.md
R163). `numlines` is at least 1 once begin has run. -/
def clampRow (numlines row : Byte) : Nat :=
  let rmax := min ROW_SLOTS numlines.toNat - 1
  if row.toNat > rmax then rmax else row.toNat

/-- The DDRAM address of (col, row): the sum modulo 2^8, its low seven bits (R60). -/
def ddramAddr (o : RowOffsets) (numlines col row : Byte) : BitVec 7 :=
  (col + o.get (clampRow numlines row)).extractLsb' 0 7

/-- The row offsets begin installs (42_init.md R150): sums modulo 2^8. -/
def defaultRowOffsets (columns : Byte) : RowOffsets := ⟨0x00#8, 0x40#8, 0x00#8 + columns, 0x40#8 + columns⟩

/-- The index check of the four button queries, after the phase check (R243, R248). -/
def withButton (s : State) (b : Byte) (body : Fin 5 → State → State) : Host.Outcome State Fault Refusal :=
  whenReady s (fun s =>
    match buttonOperand b with
    | some b => body b s
    | none => s.raise .badButton)

end Sys2Proof.Machine
end

