-- ==== Sys2Proof/Machine/Buttons.lean ====
section
/-! DEFINITION. The Button Debounce & Repeat Engine (44_buttons.md R200 to R229): the sampling routine, the per-button
automaton, the four queries and the iterations of a wait. -/

namespace Sys2Proof.Machine

open Sys2Proof

/-- `step_button`: the four arms of R211 to R214 on one record, `l` being the raw reading. -/
def stepButton (r : Button) (l : Level) : Button :=
  if l = r.last then
    if l = .low then
      if r.rep - 1#8 = 0#8 then { r with run := 0#8, rep := REPEAT_STEADY, latched := true }
      else { r with run := 0#8, rep := r.rep - 1#8 }
    else { r with run := 0#8 }
  else if DEBOUNCE_THRESHOLD < r.run then
    { r with run := 0#8, rep := REPEAT_INITIAL, last := l, latched := if l = .low then true else r.latched }
  else { r with run := r.run + 1#8 }

/-- One button of a tick: its own read, then its automaton (R210, D25). -/
def State.tickButton (s : State) (b : Fin 5) : State :=
  let draw := s.drawRead (s.cfg.buttonPin.get b)
  { draw.2 with btn := draw.2.btn.set b (stepButton (draw.2.btn.get b) draw.1) }

/-- A tick: the five buttons in index order (R210). -/
def State.tick (s : State) : State := ([0, 1, 2, 3, 4] : List (Fin 5)).foldl State.tickButton s

/-- `sample()` (R210): the bus-mode guard (60_exceptions.md R245), the 5 ms gate by 16-bit modular subtraction, then a
tick. -/
def State.sample (s : State) : State :=
  if s.busMode ≠ .input then s.raise .busNotInput
  else
    let draw := s.drawMillis
    if (draw.1 - draw.2.tLast).toNat < POLL_MS then draw.2
    else { draw.2 with tLast := draw.1 }.tick

/-- Clear the latch of a button. -/
def State.clearLatch (s : State) (b : Fin 5) : State :=
  { s with btn := s.btn.set b { s.btn.get b with latched := false } }

/-- `finish(b)` (R222): the wait returns; whether it consumes the latch is a parameter. -/
def State.finishWait (s : State) (b : Fin 5) : State := if s.cfg.waitConsumesLatch then s.clearLatch b else s

/-- `SAMPLE_BUTTONS` (R210). A call that raises has no result. -/
def execSampleButtons (s : State) : Host.Outcome State Fault Refusal :=
  whenReady s (fun s => if s.busMode ≠ .input then s.raise .busNotInput else s.sample.returning .none)

/-- `TAKE_PRESSED_EDGE b` (R220): return the latch and clear it; no sample. -/
def execTakePressedEdge (b : Byte) (s : State) : Host.Outcome State Fault Refusal :=
  withButton s b (fun b s => (s.clearLatch b).returning (.bool (s.btn.get b).latched))

/-- `WAIT_PRESSED_EDGE b`, the entry step (R222): return at once if the latch is set, else wait. -/
def execWaitPressedEdge (b : Byte) (s : State) : Host.Outcome State Fault Refusal :=
  withButton s b (fun b s =>
    if (s.btn.get b).latched then (s.finishWait b).returning .none
    else { s with waitBtn := some b })

/-- `WAIT_ITER` (R222): enabled while a wait is pending and no fault is set. Test the accepted level first, sample
otherwise. -/
def waitIter (b : Fin 5) (s : State) : Host.Outcome State Fault Refusal :=
  match s.fault with
  | some code => .fault (.noStep code)
  | none =>
    if (s.btn.get b).last = .low then .next (({ s with waitBtn := none }.finishWait b).returning .none)
    else .next s.sample

/-- `IS_HELD b` (R224): the accepted level; the latch stays. -/
def execIsHeld (b : Byte) (s : State) : Host.Outcome State Fault Refusal :=
  withButton s b (fun b s => s.returning (.bool ((s.btn.get b).last == .low)))

/-- `RAW_LEVEL b` (R226): one read of the pin, past the rate limiter and the automaton. -/
def execRawLevel (b : Byte) (s : State) : Host.Outcome State Fault Refusal :=
  withButton s b (fun b s =>
    if s.busMode ≠ .input then s.raise .busNotInput
    else
      let draw := s.drawRead (s.cfg.buttonPin.get b)
      draw.2.returning (.level draw.1))

end Sys2Proof.Machine
end

