-- ==== Sys2Proof/Syntax.lean ====
section
/-! DEFINITION. The instructions: every row of spec/opcode_table.json. The first 24 are the host operations of
30_encoding.md R70, which the host calls; the last eleven are the wire forms of R74, R76 and R77, which the block puts
on the display bus and the display controller executes. -/

namespace Sys2Proof

inductive Instr where
  /-- `BEGIN columns, lines, font_size` (42_init.md R140) -/
  | beginInit (columns lines fontSize : Byte)
  /-- `CLEAR` (43_display_ops.md R161) -/
  | clear
  /-- `HOME` (R162) -/
  | home
  /-- `SET_CURSOR col, row` (R163) -/
  | setCursor (col row : Byte)
  /-- `SET_ROW_OFFSETS r0, r1, r2, r3` (R164) -/
  | setRowOffsets (r0 r1 r2 r3 : Byte)
  /-- `DISPLAY_ON` (R165) -/
  | displayOn
  /-- `DISPLAY_OFF` (R166) -/
  | displayOff
  /-- `CURSOR_ON` (R167) -/
  | cursorOn
  /-- `CURSOR_OFF` (R168) -/
  | cursorOff
  /-- `BLINK_ON` (R169) -/
  | blinkOn
  /-- `BLINK_OFF` (R170) -/
  | blinkOff
  /-- `LEFT_TO_RIGHT` (R171) -/
  | leftToRight
  /-- `RIGHT_TO_LEFT` (R172) -/
  | rightToLeft
  /-- `AUTOSCROLL_ON` (R173) -/
  | autoscrollOn
  /-- `AUTOSCROLL_OFF` (R174) -/
  | autoscrollOff
  /-- `SCROLL_LEFT` (R175) -/
  | scrollLeft
  /-- `SCROLL_RIGHT` (R176) -/
  | scrollRight
  /-- `CREATE_CHAR slot, b0..b7` (R177); `WellFormed` holds the bitmap to eight bytes. -/
  | createChar (slot : Byte) (bitmap : List Byte)
  /-- `WRITE v` (R178) -/
  | write (v : Byte)
  /-- `SAMPLE_BUTTONS` (44_buttons.md R210) -/
  | sampleButtons
  /-- `TAKE_PRESSED_EDGE b` (R220) -/
  | takePressedEdge (b : Byte)
  /-- `WAIT_PRESSED_EDGE b` (R222) -/
  | waitPressedEdge (b : Byte)
  /-- `IS_HELD b` (R224) -/
  | isHeld (b : Byte)
  /-- `RAW_LEVEL b` (R226) -/
  | rawLevel (b : Byte)
  /-- CLEAR_DISPLAY, `00000001` (30_encoding.md R74) -/
  | wireClearDisplay
  /-- RETURN_HOME, `0000001x` (R74) -/
  | wireReturnHome (x : BitVec 1)
  /-- ENTRY_MODE_SET, `000001IS` (R74) -/
  | wireEntryModeSet (i s : Bool)
  /-- DISPLAY_CONTROL, `00001DCB` (R74) -/
  | wireDisplayControl (d c b : Bool)
  /-- CURSOR_SHIFT, `0001SRxx` (R74) -/
  | wireCursorShift (s r : Bool) (x : BitVec 2)
  /-- FUNCTION_SET, `001LNFxx` (R74) -/
  | wireFunctionSet (l n f : Bool) (x : BitVec 2)
  /-- SET_CGRAM_ADDR, `01AAAAAA` (R74) -/
  | wireSetCgramAddr (a : BitVec 6)
  /-- SET_DDRAM_ADDR, `1AAAAAAA` (R74) -/
  | wireSetDdramAddr (a : BitVec 7)
  /-- The lone handshake nibble `0x3` (R76) -/
  | wireInitNibble3
  /-- The lone handshake nibble `0x2` (R76) -/
  | wireInitNibble2
  /-- A data byte, RS at the data level (R77) -/
  | wireDataByte (d : Byte)
deriving DecidableEq, Repr

/-- The forms the display controller executes; the others are the host's operations. -/
def Instr.isWire : Instr → Bool
  | .wireClearDisplay | .wireReturnHome _ | .wireEntryModeSet _ _ | .wireDisplayControl _ _ _
  | .wireCursorShift _ _ _ | .wireFunctionSet _ _ _ _ | .wireSetCgramAddr _ | .wireSetDdramAddr _
  | .wireInitNibble3 | .wireInitNibble2 | .wireDataByte _ => true
  | .beginInit _ _ _ | .clear | .home | .setCursor _ _ | .setRowOffsets _ _ _ _ | .displayOn | .displayOff
  | .cursorOn | .cursorOff | .blinkOn | .blinkOff | .leftToRight | .rightToLeft | .autoscrollOn | .autoscrollOff
  | .scrollLeft | .scrollRight | .createChar _ _ | .write _ | .sampleButtons | .takePressedEdge _
  | .waitPressedEdge _ | .isHeld _ | .rawLevel _ => false

end Sys2Proof
end

