-- ==== Sys2Proof/WellFormed.lean ====
section
/-! DEFINITION. Which instruction terms have an encoding. The types of the operands hold all of them to their widths
(00_scope.md R10); what is left to check is that CREATE_CHAR carries exactly eight bitmap bytes (30_encoding.md R70,
R72). A button index of 5 or more, a slot of 8 or more, a row past the last and a line count of 0 are encodable: the
operation that gets one faults, masks or clamps (R71). -/

namespace Sys2Proof

/-- The term has an encoding by R70, R74, R76 or R77. -/
def Instr.wf : Instr → Bool
  | .createChar _ bitmap => bitmap.length == 8
  | .beginInit _ _ _ | .clear | .home | .setCursor _ _ | .setRowOffsets _ _ _ _ | .displayOn | .displayOff
  | .cursorOn | .cursorOff | .blinkOn | .blinkOff | .leftToRight | .rightToLeft | .autoscrollOn | .autoscrollOff
  | .scrollLeft | .scrollRight | .write _ | .sampleButtons | .takePressedEdge _ | .waitPressedEdge _ | .isHeld _
  | .rawLevel _ | .wireClearDisplay | .wireReturnHome _ | .wireEntryModeSet _ _ | .wireDisplayControl _ _ _
  | .wireCursorShift _ _ _ | .wireFunctionSet _ _ _ _ | .wireSetCgramAddr _ | .wireSetDdramAddr _
  | .wireInitNibble3 | .wireInitNibble2 | .wireDataByte _ => true

end Sys2Proof
end

