-- ==== Sys2Proof/Decode.lean ====
section
/-! DEFINITION. The two encodings of 30_encoding.md: host operations as bytes (R70 to R72) and wire forms as one or
two nibbles (R73 to R77). Decoding is total and rejects by name; the encoder stands after it. -/

namespace Sys2Proof

/-! ### Host operations -/

/-- What reading the next host operation from the host's bytes gives. -/
inductive HostDecode where
  /-- An operation and the bytes after it. -/
  | op (i : Instr) (rest : List Byte)
  /-- The id byte is not in the table of R70: ILLEGAL_OP (R78, R246). -/
  | illegal (id : Byte)
  /-- The id is known but the host has not given all the operand bytes of R72. -/
  | truncated (id : Byte)
  /-- There is no byte to read. -/
  | empty
deriving DecidableEq, Repr

/-- The number of operand bytes of an operation, told from its id byte alone; `none` for an unassigned id (R72, R78). -/
def operandCount (id : Byte) : Option Nat :=
  match id.toNat with
  | 0x01 => some 3
  | 0x02 | 0x03 => some 0
  | 0x04 => some 2
  | 0x05 => some 4
  | 0x06 | 0x07 | 0x08 | 0x09 | 0x0A | 0x0B | 0x0C | 0x0D | 0x0E | 0x0F | 0x10 | 0x11 => some 0
  | 0x12 => some 9
  | 0x13 => some 1
  | 0x20 => some 0
  | 0x21 | 0x22 | 0x23 | 0x24 => some 1
  | _ => none

/-- The operation of an id with exactly its operands, in the order of R70's table. -/
def hostInstr (id : Byte) (operands : List Byte) : Option Instr :=
  match id.toNat with
  | 0x01 => match operands with
    | [columns, lines, fontSize] => some (.beginInit columns lines fontSize)
    | _ => none
  | 0x02 => match operands with
    | [] => some .clear
    | _ => none
  | 0x03 => match operands with
    | [] => some .home
    | _ => none
  | 0x04 => match operands with
    | [col, row] => some (.setCursor col row)
    | _ => none
  | 0x05 => match operands with
    | [r0, r1, r2, r3] => some (.setRowOffsets r0 r1 r2 r3)
    | _ => none
  | 0x06 => match operands with
    | [] => some .displayOn
    | _ => none
  | 0x07 => match operands with
    | [] => some .displayOff
    | _ => none
  | 0x08 => match operands with
    | [] => some .cursorOn
    | _ => none
  | 0x09 => match operands with
    | [] => some .cursorOff
    | _ => none
  | 0x0A => match operands with
    | [] => some .blinkOn
    | _ => none
  | 0x0B => match operands with
    | [] => some .blinkOff
    | _ => none
  | 0x0C => match operands with
    | [] => some .leftToRight
    | _ => none
  | 0x0D => match operands with
    | [] => some .rightToLeft
    | _ => none
  | 0x0E => match operands with
    | [] => some .autoscrollOn
    | _ => none
  | 0x0F => match operands with
    | [] => some .autoscrollOff
    | _ => none
  | 0x10 => match operands with
    | [] => some .scrollLeft
    | _ => none
  | 0x11 => match operands with
    | [] => some .scrollRight
    | _ => none
  | 0x12 => match operands with
    | [slot, b0, b1, b2, b3, b4, b5, b6, b7] => some (.createChar slot [b0, b1, b2, b3, b4, b5, b6, b7])
    | _ => none
  | 0x13 => match operands with
    | [v] => some (.write v)
    | _ => none
  | 0x20 => match operands with
    | [] => some .sampleButtons
    | _ => none
  | 0x21 => match operands with
    | [b] => some (.takePressedEdge b)
    | _ => none
  | 0x22 => match operands with
    | [b] => some (.waitPressedEdge b)
    | _ => none
  | 0x23 => match operands with
    | [b] => some (.isHeld b)
    | _ => none
  | 0x24 => match operands with
    | [b] => some (.rawLevel b)
    | _ => none
  | _ => none

/-- Read the next operation: the id byte, then as many operand bytes as R72 gives it. -/
def decodeHost : List Byte → HostDecode
  | [] => .empty
  | id :: rest =>
    match operandCount id with
    | none => .illegal id
    | some n =>
      if rest.length < n then .truncated id
      else match hostInstr id (rest.take n) with
        | some i => .op i (rest.drop n)
        | none => .illegal id

/-! ### Wire forms -/

/-- A whole byte on the wire, read as the controller reads it: a data byte as it is (R77), a command by its highest
set bit (R74; 20_memory.md R63). The command byte 0x00 is in no family. -/
def decodeWireByte (rs : Rs) (v : Byte) : Option Instr :=
  match rs with
  | .data => some (.wireDataByte v)
  | .cmd =>
    if v.getLsbD 7 then some (.wireSetDdramAddr (v.extractLsb' 0 7))
    else if v.getLsbD 6 then some (.wireSetCgramAddr (v.extractLsb' 0 6))
    else if v.getLsbD 5 then some (.wireFunctionSet (v.getLsbD 4) (v.getLsbD 3) (v.getLsbD 2) (v.extractLsb' 0 2))
    else if v.getLsbD 4 then some (.wireCursorShift (v.getLsbD 3) (v.getLsbD 2) (v.extractLsb' 0 2))
    else if v.getLsbD 3 then some (.wireDisplayControl (v.getLsbD 2) (v.getLsbD 1) (v.getLsbD 0))
    else if v.getLsbD 2 then some (.wireEntryModeSet (v.getLsbD 1) (v.getLsbD 0))
    else if v.getLsbD 1 then some (.wireReturnHome (v.extractLsb' 0 1))
    else if v.getLsbD 0 then some .wireClearDisplay
    else none

/-- A lone nibble of the handshake (R76): 0x3 or 0x2 at the command level. -/
def decodeWireNibble (rs : Rs) (n : Nibble) : Option Instr :=
  match rs with
  | .data => none
  | .cmd => if n = 0x3#4 then some .wireInitNibble3 else if n = 0x2#4 then some .wireInitNibble2 else none

/-! ### Both, and the encoder -/

/-- The words of an instruction: the host's bytes, or a byte or a lone nibble on the wire (R70, R73). -/
inductive Code where
  | host (bytes : List Byte)
  | wireByte (rs : Rs) (v : Byte)
  | wireNibble (rs : Rs) (n : Nibble)
deriving DecidableEq, Repr

/-- Decode the words of one instruction. -/
def decode : Code → Option Instr
  | .host bytes =>
    match decodeHost bytes with
    | .op i [] => some i
    | _ => none
  | .wireByte rs v => decodeWireByte rs v
  | .wireNibble rs n => decodeWireNibble rs n

/-- The words of an instruction, from the tables of R70, R74, R76 and R77. -/
def encode : Instr → Code
  | .beginInit columns lines fontSize => .host [0x01#8, columns, lines, fontSize]
  | .clear => .host [0x02#8]
  | .home => .host [0x03#8]
  | .setCursor col row => .host [0x04#8, col, row]
  | .setRowOffsets r0 r1 r2 r3 => .host [0x05#8, r0, r1, r2, r3]
  | .displayOn => .host [0x06#8]
  | .displayOff => .host [0x07#8]
  | .cursorOn => .host [0x08#8]
  | .cursorOff => .host [0x09#8]
  | .blinkOn => .host [0x0A#8]
  | .blinkOff => .host [0x0B#8]
  | .leftToRight => .host [0x0C#8]
  | .rightToLeft => .host [0x0D#8]
  | .autoscrollOn => .host [0x0E#8]
  | .autoscrollOff => .host [0x0F#8]
  | .scrollLeft => .host [0x10#8]
  | .scrollRight => .host [0x11#8]
  | .createChar slot bitmap => .host (0x12#8 :: slot :: bitmap)
  | .write v => .host [0x13#8, v]
  | .sampleButtons => .host [0x20#8]
  | .takePressedEdge b => .host [0x21#8, b]
  | .waitPressedEdge b => .host [0x22#8, b]
  | .isHeld b => .host [0x23#8, b]
  | .rawLevel b => .host [0x24#8, b]
  | .wireClearDisplay => .wireByte .cmd 0b00000001#8
  | .wireReturnHome x => .wireByte .cmd (0b0000001#7 ++ x)
  | .wireEntryModeSet i s => .wireByte .cmd (0b000001#6 ++ BitVec.ofBool i ++ BitVec.ofBool s)
  | .wireDisplayControl d c b => .wireByte .cmd (0b00001#5 ++ BitVec.ofBool d ++ BitVec.ofBool c ++ BitVec.ofBool b)
  | .wireCursorShift s r x => .wireByte .cmd (0b0001#4 ++ BitVec.ofBool s ++ BitVec.ofBool r ++ x)
  | .wireFunctionSet l n f x => .wireByte .cmd (0b001#3 ++ BitVec.ofBool l ++ BitVec.ofBool n ++ BitVec.ofBool f ++ x)
  | .wireSetCgramAddr a => .wireByte .cmd (0b01#2 ++ a)
  | .wireSetDdramAddr a => .wireByte .cmd (0b1#1 ++ a)
  | .wireInitNibble3 => .wireNibble .cmd 0x3#4
  | .wireInitNibble2 => .wireNibble .cmd 0x2#4
  | .wireDataByte d => .wireByte .data d

/-- How many units the words are: bytes of a host operation, transfers of a wire form (R72, R80). -/
def Code.units : Code → Nat
  | .host bytes => bytes.length
  | .wireByte _ _ => 2
  | .wireNibble _ _ => 1

/-- The length of an instruction by R72's table, and of a wire form by R80: a byte is two transfers, a handshake nibble
one. -/
def Instr.units : Instr → Nat
  | .beginInit _ _ _ => 4
  | .setCursor _ _ => 3
  | .setRowOffsets _ _ _ _ => 5
  | .createChar _ _ => 10
  | .write _ | .takePressedEdge _ | .waitPressedEdge _ | .isHeld _ | .rawLevel _ => 2
  | .clear | .home | .displayOn | .displayOff | .cursorOn | .cursorOff | .blinkOn | .blinkOff | .leftToRight
  | .rightToLeft | .autoscrollOn | .autoscrollOff | .scrollLeft | .scrollRight | .sampleButtons => 1
  | .wireClearDisplay | .wireReturnHome _ | .wireEntryModeSet _ _ | .wireDisplayControl _ _ _
  | .wireCursorShift _ _ _ | .wireFunctionSet _ _ _ _ | .wireSetCgramAddr _ | .wireSetDdramAddr _
  | .wireDataByte _ => 2
  | .wireInitNibble3 | .wireInitNibble2 => 1

/-- The mnemonic of an instruction as spec/opcode_table.json spells it. -/
def Instr.mnemonic : Instr → String
  | .beginInit _ _ _ => "BEGIN"
  | .clear => "CLEAR"
  | .home => "HOME"
  | .setCursor _ _ => "SET_CURSOR"
  | .setRowOffsets _ _ _ _ => "SET_ROW_OFFSETS"
  | .displayOn => "DISPLAY_ON"
  | .displayOff => "DISPLAY_OFF"
  | .cursorOn => "CURSOR_ON"
  | .cursorOff => "CURSOR_OFF"
  | .blinkOn => "BLINK_ON"
  | .blinkOff => "BLINK_OFF"
  | .leftToRight => "LEFT_TO_RIGHT"
  | .rightToLeft => "RIGHT_TO_LEFT"
  | .autoscrollOn => "AUTOSCROLL_ON"
  | .autoscrollOff => "AUTOSCROLL_OFF"
  | .scrollLeft => "SCROLL_LEFT"
  | .scrollRight => "SCROLL_RIGHT"
  | .createChar _ _ => "CREATE_CHAR"
  | .write _ => "WRITE"
  | .sampleButtons => "SAMPLE_BUTTONS"
  | .takePressedEdge _ => "TAKE_PRESSED_EDGE"
  | .waitPressedEdge _ => "WAIT_PRESSED_EDGE"
  | .isHeld _ => "IS_HELD"
  | .rawLevel _ => "RAW_LEVEL"
  | .wireClearDisplay => "WIRE_CLEAR_DISPLAY"
  | .wireReturnHome _ => "WIRE_RETURN_HOME"
  | .wireEntryModeSet _ _ => "WIRE_ENTRY_MODE_SET"
  | .wireDisplayControl _ _ _ => "WIRE_DISPLAY_CONTROL"
  | .wireCursorShift _ _ _ => "WIRE_CURSOR_SHIFT"
  | .wireFunctionSet _ _ _ _ => "WIRE_FUNCTION_SET"
  | .wireSetCgramAddr _ => "WIRE_SET_CGRAM_ADDR"
  | .wireSetDdramAddr _ => "WIRE_SET_DDRAM_ADDR"
  | .wireInitNibble3 => "WIRE_INIT_NIBBLE_3"
  | .wireInitNibble2 => "WIRE_INIT_NIBBLE_2"
  | .wireDataByte _ => "WIRE_DATA_BYTE"

/-! ### The opcode table's numbering -/

/-- The ten bytes of the longest operation, cut from the table's number: byte `k` is bits `8k+7 .. 8k`, and every bit
at or above `nbits` is 0. -/
def tableBytes (nbits w : Nat) : List Byte :=
  let v := w % 2 ^ nbits
  [0, 1, 2, 3, 4, 5, 6, 7, 8, 9].map (fun k => BitVec.ofNat 8 (v >>> (8 * k)))

/-- The instruction of a word of spec/opcode_table.json. A host operation where the first byte is an operation id;
else the wire command that the byte is. The two encodings share the byte values 0x01 to 0x24 (DESIGN CHOICE, log 12). -/
def decodeTableWord (nbits w : Nat) : Option Instr :=
  match decodeHost (tableBytes nbits w) with
  | .op i _ => some i
  | _ => decodeWireByte .cmd (BitVec.ofNat 8 (w % 2 ^ nbits))

end Sys2Proof
end

