-- ==== Sys2Proof/Machine/Controller.lean ====
section
/-! DEFINITION. The wire forms of 30_encoding.md R74, R76 and R77 as the reference controller of 20_memory.md R63 executes
them, and how it reads its transfers (R55). The block never reads any of this back (R67). -/

namespace Sys2Proof.Machine

open Sys2Proof

/-- The address counter moved by one, up or down, modulo the size of the target (R63). -/
def Lcd.moved (c : Lcd) (up : Bool) : BitVec 7 :=
  let a := if up then c.ac + 1#7 else c.ac - 1#7
  match c.target with
  | .ddram => a
  | .cgram => a &&& 0x3F#7

/-- Point the address counter at DDRAM address 0 and undo the display shift (clear and home, R63; the shift is
PRESUMED, log 13). -/
def Lcd.homed (c : Lcd) : Lcd := { c with target := .ddram, ac := 0#7, shift := 0 }

/-- A data byte written at the address counter, which then moves by the entry mode (R63). With autoscroll on, a write to
DDRAM shifts the display against the writing direction (10_state.md R27; the direction is PRESUMED, log 13). -/
def Lcd.written (c : Lcd) (d : Byte) : Lcd :=
  match c.target with
  | .ddram =>
    { c with
      ddram := Memory.write c.ddram c.ac.toNat d
      ac := c.moved c.id
      shift := if c.s then (if c.id then c.shift - 1 else c.shift + 1) else c.shift }
  | .cgram => { c with cgram := Memory.write c.cgram c.ac.toNat d, ac := c.moved c.id }

/-- CLEAR_DISPLAY (R63, R74): every DDRAM byte becomes 0x20, home, and increment. -/
def execWireClearDisplay (s : State) : Host.Outcome State Fault Refusal :=
  .next { s with lcd := { s.lcd.homed with ddram := Memory.fill 128 0x20#8, id := true } }

/-- RETURN_HOME (R63, R74). -/
def execWireReturnHome (s : State) : Host.Outcome State Fault Refusal :=
  .next { s with lcd := s.lcd.homed }

/-- ENTRY_MODE_SET (R63, R74). -/
def execWireEntryModeSet (i sh : Bool) (s : State) : Host.Outcome State Fault Refusal :=
  .next { s with lcd := { s.lcd with id := i, s := sh } }

/-- DISPLAY_CONTROL (R63, R74). -/
def execWireDisplayControl (d c b : Bool) (s : State) : Host.Outcome State Fault Refusal :=
  .next { s with lcd := { s.lcd with d := d, c := c, b := b } }

/-- CURSOR_SHIFT (R63, R74, 43_display_ops.md R175): no memory effect. S = 1 shifts the display one position, S = 0
moves the cursor, which is the address counter (log 13). -/
def execWireCursorShift (sh right : Bool) (s : State) : Host.Outcome State Fault Refusal :=
  .next { s with
    lcd :=
      if sh then { s.lcd with shift := if right then s.lcd.shift + 1 else s.lcd.shift - 1 }
      else { s.lcd with ac := s.lcd.moved right } }

/-- FUNCTION_SET (R63, R74). -/
def execWireFunctionSet (l n f : Bool) (s : State) : Host.Outcome State Fault Refusal :=
  .next { s with lcd := { s.lcd with dl := l, n := n, f := f } }

/-- SET_CGRAM_ADDR (R63, R74). -/
def execWireSetCgramAddr (a : BitVec 6) (s : State) : Host.Outcome State Fault Refusal :=
  .next { s with lcd := { s.lcd with target := .cgram, ac := a.setWidth 7 } }

/-- SET_DDRAM_ADDR (R63, R74). -/
def execWireSetDdramAddr (a : BitVec 7) (s : State) : Host.Outcome State Fault Refusal :=
  .next { s with lcd := { s.lcd with target := .ddram, ac := a } }

/-- The lone nibble 0x3 (R76): the interface stays at, or goes back to, 8 bits (log 11). -/
def execWireInitNibble3 (s : State) : Host.Outcome State Fault Refusal :=
  .next { s with lcd := { s.lcd with dl := true } }

/-- The lone nibble 0x2 (R76, 42_init.md R145): 4-bit interface mode is committed. -/
def execWireInitNibble2 (s : State) : Host.Outcome State Fault Refusal :=
  .next { s with lcd := { s.lcd with dl := false } }

/-- A data byte (R63, R77). -/
def execWireDataByte (d : Byte) (s : State) : Host.Outcome State Fault Refusal :=
  .next { s with lcd := s.lcd.written d }

/-! ### Reading the wire (R55, R80) -/

/-- What the controller does next with the transfers it has latched. -/
inductive WireNext where
  /-- It executes a command, a data byte or a handshake nibble. -/
  | run (i : Instr) (rest : List WireItem)
  /-- It is not changed by the power-up item (42_init.md R143, log 7). -/
  | dropped (rest : List WireItem)
  /-- It meets transfers to which the spec gives no meaning, and goes on in a state the spec does not tell (log 20). -/
  | misread (rest : List WireItem)
  /-- It waits: no transfer, or the first half of a byte. -/
  | waiting
deriving DecidableEq, Repr

/-- Lone nibbles in 8-bit mode, pairs in 4-bit mode, high nibble first (R55, R80; log 11). Without a meaning are a lone
transfer that is no handshake nibble (R76), the command byte 0x00 (R74, R79), a pair with two RS levels, and half a byte
before the power-up item. -/
def nextWire (dl : Bool) : List WireItem → WireNext
  | [] => .waiting
  | .powerUp _ _ :: rest => .dropped rest
  | .transfer rs n :: rest =>
    if dl then
      match decodeWireNibble rs n with
      | some i => .run i rest
      | none => .misread rest
    else
      match rest with
      | [] => .waiting
      | .powerUp _ _ :: _ => .misread rest
      | .transfer rs' n' :: rest' =>
        if rs = rs' then
          match decodeWireByte rs (n ++ n') with
          | some i => .run i rest'
          | none => .misread rest'
        else .misread rest'

/-- A memory that holds what is told of each of its addresses, in canonical form. -/
def Memory.ofFn (size : Nat) (f : Nat → Option Byte) : Memory :=
  (List.range size).filterMap (fun a => (f a).map (fun v => (a, v)))

/-- The controller with every register and byte open (log 20). -/
def Lcd.ofFree (u : FreeController) : Lcd where
  ac := if u.cgramTarget then u.ac &&& 0x3F#7 else u.ac
  target := if u.cgramTarget then .cgram else .ddram
  ddram := Memory.ofFn Target.ddram.size u.ddram
  cgram := Memory.ofFn Target.cgram.size u.cgram
  id := u.id
  s := u.s
  d := u.d
  c := u.c
  b := u.b
  dl := u.dl
  n := u.n
  f := u.f
  shift := u.shift

/-- The controller has met transfers without a meaning: the next free value takes its place; the block is not concerned
(30_encoding.md R79, 41_transmit.md R126). -/
def State.misread (s : State) : State :=
  { s with lcd := Lcd.ofFree (Config.controllerAfterMisread s.misreads), misreads := s.misreads + 1 }

/-! ### What the display shows (20_memory.md R65, 43_display_ops.md R178) -/

/-- The glyph a DDRAM cell shows when it holds a code 0x00 to 0x07: the eight CGRAM bytes of that slot, as they are
now. -/
def Lcd.customGlyphAt (c : Lcd) (a : Nat) : Option (List (Option Byte)) :=
  match c.read .ddram a with
  | some code =>
    if code.toNat < 8 then
      some ([0, 1, 2, 3, 4, 5, 6, 7].map (fun j => c.read .cgram (8 * code.toNat + j)))
    else none
  | none => none

end Sys2Proof.Machine
end

