-- ==== Sys2Proof/Machine/Bus.lean ====
section
/-! DEFINITION. The Bus Direction Controller (40_bus_direction.md R101 to R107) and the transmit primitive
(41_transmit.md R120 to R123). The internal procedures are lists of events, in the order their rules give. -/

namespace Sys2Proof.Machine

open Sys2Proof

/-! ### Transmit (41_transmit.md) -/

/-- `pulse_enable()` (R121): idle, active, idle, with their holds. -/
def pulseEnable (P : Params) : List Event :=
  [.drive P.enPin (elec P false), .delay T_EN_PRE_US,
   .drive P.enPin (elec P true), .delay T_EN_WIDTH_US,
   .drive P.enPin (elec P false), .delay T_EN_POST_US]

/-- `write4(n)` (R120): bit i on data pin i, then one enable pulse. -/
def write4 (P : Params) (n : Nibble) : List Event :=
  [.drive P.dataPin.d0 (Level.ofBool (n.getLsbD 0)), .drive P.dataPin.d1 (Level.ofBool (n.getLsbD 1)),
   .drive P.dataPin.d2 (Level.ofBool (n.getLsbD 2)), .drive P.dataPin.d3 (Level.ofBool (n.getLsbD 3))]
    ++ pulseEnable P

/-- `v[7:4]` -/
def highNibble (v : Byte) : Nibble := v.extractLsb' 4 4

/-- `v[3:0]` -/
def lowNibble (v : Byte) : Nibble := v.extractLsb' 0 4

/-- `send(v, rs)` (R122): RS, then the high nibble, then the low one. -/
def send (P : Params) (v : Byte) (rs : Rs) : List Event :=
  .drive P.rsPin (elec P rs.asserted) :: (write4 P (highNibble v) ++ write4 P (lowNibble v))

/-- `cmd(v)` (R123). -/
def cmd (P : Params) (v : Byte) : List Event := send P v .cmd

/-- `data(v)` (R123). -/
def data (P : Params) (v : Byte) : List Event := send P v .data

/-! ### Bus direction (40_bus_direction.md) -/

/-- The events of claim (R101). -/
def claimEvents (P : Params) : List Event :=
  [.setMode P.dataPin.d0 .output, .setMode P.dataPin.d1 .output, .setMode P.dataPin.d2 .output,
   .setMode P.dataPin.d3 .output, .delay T_SETTLE_US]

/-- The events of release (R102). -/
def releaseEvents (P : Params) : List Event :=
  [.setMode P.dataPin.d0 .inputPullup, .setMode P.dataPin.d1 .inputPullup, .setMode P.dataPin.d2 .inputPullup,
   .setMode P.dataPin.d3 .inputPullup, .delay T_SETTLE_US]

/-- `claim()` (R101). -/
def State.claim (s : State) : State := { s.emit (claimEvents s.cfg) with busMode := .output }

/-- `release()` (R102). -/
def State.release (s : State) : State := { s.emit (releaseEvents s.cfg) with busMode := .input }

/-- `transaction(body)` (R103): claim, the body's events, release. -/
def State.transaction (s : State) (body : List Event) : State := (s.claim.emit body).release

/-- The button pins `setup_pins` sets: those that are no data pin, in index order, each once (R104). -/
def dedicatedButtonPins (P : Params) : List PinId → List PinId → List PinId
  | _, [] => []
  | seen, p :: ps =>
    if p ∈ P.dataPin.toList ∨ p ∈ seen then dedicatedButtonPins P seen ps
    else p :: dedicatedButtonPins P (p :: seen) ps

/-- `setup_pins()` (R104). -/
def setupPins (P : Params) : List Event :=
  .setMode P.rsPin .output :: .setMode P.enPin .output ::
    (dedicatedButtonPins P [] P.buttonPin.toList).map (fun p => .setMode p .inputPullup)

/-! ### The body of CREATE_CHAR and of begin's step 6 -/

/-- Set the CGRAM address of a slot, then send the bitmap as data (43_display_ops.md R177, 42_init.md R147). -/
def glyphBody (P : Params) (slot : Byte) (bitmap : List Byte) : List Event :=
  cmd P (cgramByte slot) ++ bitmap.flatMap (data P)

end Sys2Proof.Machine
end

