-- ==== Sys2Proof/Machine/Display.lean ====
section
/-! DEFINITION. The display operations (43_display_ops.md R160 to R179). -/

namespace Sys2Proof.Machine

open Sys2Proof

/-- The common shape (R160): one transaction whose body may depend on the state, and no result. -/
def displayOp (s : State) (body : State → List Event) : Host.Outcome State Fault Refusal :=
  whenReady s (fun s => (s.transaction (body s)).returning .none)

/-- Change `displaycontrol` and send it (R165 to R170, R179). -/
def displayControlOp (s : State) (change : Byte → Byte) : Host.Outcome State Fault Refusal :=
  whenReady s (fun s =>
    let s1 := { s with displaycontrol := change s.displaycontrol }
    (s1.transaction (cmd s1.cfg (displayControlByte s1.displaycontrol))).returning .none)

/-- Change `displaymode` and send it (R171 to R174, R179). -/
def entryModeOp (s : State) (change : Byte → Byte) : Host.Outcome State Fault Refusal :=
  whenReady s (fun s =>
    let s1 := { s with displaymode := change s.displaymode }
    (s1.transaction (cmd s1.cfg (entryModeByte s1.displaymode))).returning .none)

/-- `CLEAR` (R161): the slow wait lies inside the transaction. -/
def execClear (s : State) : Host.Outcome State Fault Refusal :=
  displayOp s (fun s => cmd s.cfg CMD_CLEAR ++ [.delay T_SLOW_CMD_US])

/-- `HOME` (R162). -/
def execHome (s : State) : Host.Outcome State Fault Refusal :=
  displayOp s (fun s => cmd s.cfg CMD_HOME ++ [.delay T_SLOW_CMD_US])

/-- `SET_CURSOR col, row` (R163). -/
def execSetCursor (col row : Byte) (s : State) : Host.Outcome State Fault Refusal :=
  displayOp s (fun s => cmd s.cfg (ddramByte (ddramAddr s.rowOffsets s.numlines col row)))

/-- `SET_ROW_OFFSETS r0, r1, r2, r3` (R164): no transaction and no event. -/
def execSetRowOffsets (r0 r1 r2 r3 : Byte) (s : State) : Host.Outcome State Fault Refusal :=
  whenReady s (fun s => { s with rowOffsets := ⟨r0, r1, r2, r3⟩ }.returning .none)

/-- `DISPLAY_ON` (R165). -/
def execDisplayOn (s : State) : Host.Outcome State Fault Refusal := displayControlOp s (setFlag · FLAG_D)

/-- `DISPLAY_OFF` (R166). -/
def execDisplayOff (s : State) : Host.Outcome State Fault Refusal := displayControlOp s (clearFlag · FLAG_D)

/-- `CURSOR_ON` (R167). -/
def execCursorOn (s : State) : Host.Outcome State Fault Refusal := displayControlOp s (setFlag · FLAG_C)

/-- `CURSOR_OFF` (R168). -/
def execCursorOff (s : State) : Host.Outcome State Fault Refusal := displayControlOp s (clearFlag · FLAG_C)

/-- `BLINK_ON` (R169). -/
def execBlinkOn (s : State) : Host.Outcome State Fault Refusal := displayControlOp s (setFlag · FLAG_B)

/-- `BLINK_OFF` (R170). -/
def execBlinkOff (s : State) : Host.Outcome State Fault Refusal := displayControlOp s (clearFlag · FLAG_B)

/-- `LEFT_TO_RIGHT` (R171). -/
def execLeftToRight (s : State) : Host.Outcome State Fault Refusal := entryModeOp s (setFlag · FLAG_ID)

/-- `RIGHT_TO_LEFT` (R172). -/
def execRightToLeft (s : State) : Host.Outcome State Fault Refusal := entryModeOp s (clearFlag · FLAG_ID)

/-- `AUTOSCROLL_ON` (R173). -/
def execAutoscrollOn (s : State) : Host.Outcome State Fault Refusal := entryModeOp s (setFlag · FLAG_S)

/-- `AUTOSCROLL_OFF` (R174). -/
def execAutoscrollOff (s : State) : Host.Outcome State Fault Refusal := entryModeOp s (clearFlag · FLAG_S)

/-- `SCROLL_LEFT` (R175): stateless. -/
def execScrollLeft (s : State) : Host.Outcome State Fault Refusal := displayOp s (fun s => cmd s.cfg (shiftByte false))

/-- `SCROLL_RIGHT` (R176): stateless. -/
def execScrollRight (s : State) : Host.Outcome State Fault Refusal := displayOp s (fun s => cmd s.cfg (shiftByte true))

/-- `CREATE_CHAR slot, b0..b7` (R177). -/
def execCreateChar (slot : Byte) (bitmap : List Byte) (s : State) : Host.Outcome State Fault Refusal :=
  displayOp s (fun s => glyphBody s.cfg slot bitmap)

/-- `WRITE v` (R178). -/
def execWrite (v : Byte) (s : State) : Host.Outcome State Fault Refusal := displayOp s (fun s => data s.cfg v)

end Sys2Proof.Machine
end

