-- ==== Sys2Proof/Machine/Init.lean ====
section
/-! DEFINITION. BEGIN (42_init.md R140 to R152). -/

namespace Sys2Proof.Machine

open Sys2Proof

/-- Steps 1 to 4 after the claim: power-up wait, control lines to idle, the handshake 3, 3, 3, 2 (R142 to R145). -/
def handshake (P : Params) : List Event :=
  [.delay T_POWERUP_US, .drive P.rsPin (elec P false), .drive P.enPin (elec P false)]
    ++ write4 P 0x3#4 ++ [.delay T_INIT_0_US]
    ++ write4 P 0x3#4 ++ [.delay T_INIT_1_US]
    ++ write4 P 0x3#4 ++ [.delay T_INIT_2_US]
    ++ write4 P 0x2#4

/-- Step 6 for one slot (R147). -/
def State.uploadGlyph (s : State) (k : Fin 8) : State :=
  s.transaction (glyphBody s.cfg (BitVec.ofNat 8 k)
    ([0, 1, 2, 3, 4, 5, 6, 7].map (s.cfg.glyphByte k)))

/-- Steps 1 to 5: begin's first transaction (R142 to R146). -/
def State.beginHandshake (s : State) : State :=
  (((s.emit (setupPins s.cfg)).claim).emit
    (handshake s.cfg ++ cmd s.cfg (functionSetByte s.displayfunction))).release

/-- Step 6: the eight glyphs in order (R147). -/
def State.beginGlyphs (s : State) : State :=
  ([0, 1, 2, 3, 4, 5, 6, 7] : List (Fin 8)).foldl State.uploadGlyph s

/-- Step 7: display on, clear, entry mode, three transactions (R148). -/
def State.beginDisplay (s : State) : State :=
  let s1 := { s with displaycontrol := FLAG_D }
  let s2 := s1.transaction (cmd s1.cfg (displayControlByte s1.displaycontrol))
  let s3 := s2.transaction (cmd s2.cfg CMD_CLEAR ++ [.delay T_SLOW_CMD_US])
  let s4 := { s3 with displaymode := FLAG_ID }
  s4.transaction (cmd s4.cfg (entryModeByte s4.displaymode))

/-- What begin does once its checks have passed (R140). -/
def State.beginBody (s : State) (columns lines fontSize : Byte) : State :=
  let s1 := { s with
    phase := .init
    numlines := lines
    rowOffsets := defaultRowOffsets columns
    displayfunction := functionFlags lines fontSize }
  { s1.beginHandshake.beginGlyphs.beginDisplay with phase := .ready }

/-- `BEGIN columns, lines, font_size` (R140, faults R152). -/
def execBeginInit (columns lines fontSize : Byte) (s : State) : Host.Outcome State Fault Refusal :=
  hostOp s (fun s =>
    if s.phase ≠ .uninit then s.raise .alreadyBegun
    else if lines = 0#8 then s.raise .badLines
    else (s.beginBody columns lines fontSize).returning .none)

end Sys2Proof.Machine
end

