-- ==== Sys2Proof/Machine/Dispatch.lean ====
section
/-! DEFINITION. One arm for every instruction. -/

namespace Sys2Proof.Machine

open Sys2Proof

def exec (i : Instr) (s : State) : Host.Outcome State Fault Refusal :=
  match i with
  | .beginInit columns lines fontSize => Sys2Proof.Machine.execBeginInit columns lines fontSize s
  | .clear => Sys2Proof.Machine.execClear s
  | .home => Sys2Proof.Machine.execHome s
  | .setCursor col row => Sys2Proof.Machine.execSetCursor col row s
  | .setRowOffsets r0 r1 r2 r3 => Sys2Proof.Machine.execSetRowOffsets r0 r1 r2 r3 s
  | .displayOn => Sys2Proof.Machine.execDisplayOn s
  | .displayOff => Sys2Proof.Machine.execDisplayOff s
  | .cursorOn => Sys2Proof.Machine.execCursorOn s
  | .cursorOff => Sys2Proof.Machine.execCursorOff s
  | .blinkOn => Sys2Proof.Machine.execBlinkOn s
  | .blinkOff => Sys2Proof.Machine.execBlinkOff s
  | .leftToRight => Sys2Proof.Machine.execLeftToRight s
  | .rightToLeft => Sys2Proof.Machine.execRightToLeft s
  | .autoscrollOn => Sys2Proof.Machine.execAutoscrollOn s
  | .autoscrollOff => Sys2Proof.Machine.execAutoscrollOff s
  | .scrollLeft => Sys2Proof.Machine.execScrollLeft s
  | .scrollRight => Sys2Proof.Machine.execScrollRight s
  | .createChar slot bitmap => Sys2Proof.Machine.execCreateChar slot bitmap s
  | .write v => Sys2Proof.Machine.execWrite v s
  | .sampleButtons => Sys2Proof.Machine.execSampleButtons s
  | .takePressedEdge b => Sys2Proof.Machine.execTakePressedEdge b s
  | .waitPressedEdge b => Sys2Proof.Machine.execWaitPressedEdge b s
  | .isHeld b => Sys2Proof.Machine.execIsHeld b s
  | .rawLevel b => Sys2Proof.Machine.execRawLevel b s
  | .wireClearDisplay => Sys2Proof.Machine.execWireClearDisplay s
  | .wireReturnHome _ => Sys2Proof.Machine.execWireReturnHome s
  | .wireEntryModeSet i1 sh => Sys2Proof.Machine.execWireEntryModeSet i1 sh s
  | .wireDisplayControl d c b => Sys2Proof.Machine.execWireDisplayControl d c b s
  | .wireCursorShift sh r _ => Sys2Proof.Machine.execWireCursorShift sh r s
  | .wireFunctionSet l n f _ => Sys2Proof.Machine.execWireFunctionSet l n f s
  | .wireSetCgramAddr a => Sys2Proof.Machine.execWireSetCgramAddr a s
  | .wireSetDdramAddr a => Sys2Proof.Machine.execWireSetDdramAddr a s
  | .wireInitNibble3 => Sys2Proof.Machine.execWireInitNibble3 s
  | .wireInitNibble2 => Sys2Proof.Machine.execWireInitNibble2 s
  | .wireDataByte d => Sys2Proof.Machine.execWireDataByte d s

end Sys2Proof.Machine
end

