-- ==== Sys2Proof/Machine/Assembler.lean ====
section
/-! DEFINITION. The assembler syntax of 30_encoding.md R81 and the pseudo-operations of R82: what a line of the host's
program text stands for. -/

namespace Sys2Proof.Machine

open Sys2Proof

/-! ### Assembler lines (R81, 92_eei_decisions.md D29) -/

/-- The lower-case mnemonics of R81 with their ids of R70. -/
def asmNames : List (String × Byte) :=
  [("begin", 0x01#8), ("clear", 0x02#8), ("home", 0x03#8), ("set_cursor", 0x04#8), ("set_row_offsets", 0x05#8),
   ("display_on", 0x06#8), ("display_off", 0x07#8), ("cursor_on", 0x08#8), ("cursor_off", 0x09#8)]
    ++ [("blink_on", 0x0A#8), ("blink_off", 0x0B#8), ("left_to_right", 0x0C#8), ("right_to_left", 0x0D#8),
      ("autoscroll_on", 0x0E#8), ("autoscroll_off", 0x0F#8), ("scroll_left", 0x10#8), ("scroll_right", 0x11#8)]
    ++ [("create_char", 0x12#8), ("write", 0x13#8), ("sample_buttons", 0x20#8), ("take_pressed_edge", 0x21#8),
      ("wait_pressed_edge", 0x22#8), ("is_held", 0x23#8), ("raw_level", 0x24#8)]

/-- What a name stands for. -/
def asmLookup {α : Type} (name : String) : List (String × α) → Option α
  | [] => none
  | (n, v) :: rest => if n = name then some v else asmLookup name rest

/-- The tokens of a line. -/
inductive Token where
  | word (w : List Char)
  | num (n : Nat)
  | str (s : List Char)
  | comma
  | open_
  | close
  | arrow
deriving DecidableEq, Repr

/-- A decimal or hexadecimal digit. -/
def digitValue (c : Char) : Option Nat :=
  if '0' ≤ c ∧ c ≤ '9' then some (c.toNat - '0'.toNat)
  else if 'a' ≤ c ∧ c ≤ 'f' then some (c.toNat - 'a'.toNat + 10)
  else if 'A' ≤ c ∧ c ≤ 'F' then some (c.toNat - 'A'.toNat + 10)
  else none

/-- A number in a base, from its digits. -/
def digitsValue (base : Nat) : Nat → List Char → Option Nat
  | acc, [] => some acc
  | acc, c :: cs =>
    match digitValue c with
    | some d => if d < base then digitsValue base (acc * base + d) cs else none
    | none => none

/-- What a run of letters, digits and underscores is: a number if it starts with a digit. -/
def wordToken : List Char → Option Token
  | [] => none
  | '0' :: 'x' :: c :: cs => (digitsValue 16 0 (c :: cs)).map .num
  | c :: cs => if '0' ≤ c ∧ c ≤ '9' then (digitsValue 10 0 (c :: cs)).map .num else some (.word (c :: cs))

/-- Put the word read so far (reversed) before the tokens of the rest of the line. -/
def flushWord (cur : List Char) (rest : Option (List Token)) : Option (List Token) :=
  match cur with
  | [] => rest
  | _ => (wordToken cur.reverse).bind (fun t => rest.map (t :: ·))

/-- The tokens of a line; `;` starts a comment, `'c'` is the code of c, and text stands between double quotes. `str` is the
text read so far (reversed) while inside quotes. A character without an ASCII code stands for its Unicode code point, which
an operand of eight bits holds up to 255 (DESIGN CHOICE, log 26). -/
def lexLine (str : Option (List Char)) (cur : List Char) : List Char → Option (List Token)
  | [] => if str.isSome then none else flushWord cur (some [])
  | c :: rest =>
    match str with
    | some acc =>
      if c = '"' then (lexLine none [] rest).map (.str acc.reverse :: ·) else lexLine (some (c :: acc)) [] rest
    | none =>
      match c, rest with
      | ';', _ => flushWord cur (some [])
      | '"', rest => flushWord cur (lexLine (some []) [] rest)
      | '\'', d :: '\'' :: rest => flushWord cur ((lexLine none [] rest).map (.num d.toNat :: ·))
      | '-', '>' :: rest => flushWord cur ((lexLine none [] rest).map (.arrow :: ·))
      | ',', rest => flushWord cur ((lexLine none [] rest).map (.comma :: ·))
      | '[', rest => flushWord cur ((lexLine none [] rest).map (.open_ :: ·))
      | ']', rest => flushWord cur ((lexLine none [] rest).map (.close :: ·))
      | ' ', rest => flushWord cur (lexLine none [] rest)
      | '\t', rest => flushWord cur (lexLine none [] rest)
      | c, rest => lexLine none (c :: cur) rest

/-- The operands of a line, separated by commas; a bracketed list stands for its items. Each is one byte (30_encoding.md R70,
R71), so a number above 255 has no encoding and makes the line malformed, as a button index too (DESIGN CHOICE, log 27). -/
def parseOperands (inList want : Bool) : List Token → Option (List Byte)
  | [] => if inList || want then none else some []
  | .num n :: rest =>
    if want && n < 256 then (parseOperands inList false rest).map (BitVec.ofNat 8 n :: ·) else none
  | .comma :: rest => if want then none else parseOperands inList true rest
  | .open_ :: rest => if want && !inList then parseOperands true true rest else none
  | .close :: rest => if !want && inList then parseOperands false false rest else none
  | .word _ :: _ => none
  | .str _ :: _ => none
  | .arrow :: _ => none

/-- Take a trailing `-> name` off what follows a name. It is taken off an operation or pseudo-operation without a result
too, where it says nothing (DESIGN CHOICE, log 25). -/
def stripResult (ts : List Token) : List Token :=
  match ts.reverse with
  | .word _ :: .arrow :: rest => rest.reverse
  | _ => ts

/-! ### Pseudo-operations (R82) -/

inductive Pseudo where
  | print (s : List Byte)
  | display
  | noDisplay
  | cursor
  | noCursor
  | blink
  | noBlink
deriving DecidableEq, Repr

/-- The host operations a pseudo-operation expands into. -/
def Pseudo.expand : Pseudo → List Instr
  | .print s => s.map .write
  | .display => [.displayOn]
  | .noDisplay => [.displayOff]
  | .cursor => [.cursorOn]
  | .noCursor => [.cursorOff]
  | .blink => [.blinkOn]
  | .noBlink => [.blinkOff]

/-- The names of the pseudo-operations without operands. -/
def pseudoNames : List (String × Pseudo) :=
  [("display", .display), ("no_display", .noDisplay), ("cursor", .cursor), ("no_cursor", .noCursor), ("blink", .blink),
   ("no_blink", .noBlink)]

/-! ### A line -/

/-- What a line stands for. -/
inductive LineDecode where
  /-- The host operations to call, in order; none for a line that is blank or all comment. -/
  | calls (is : List Instr)
  /-- `poll_until_held b`. -/
  | poll (b : Byte)
  /-- A name the decoder does not know, whatever follows it: ILLEGAL_OP (30_encoding.md R78, 60_exceptions.md R246). -/
  | unknown (name : String)
  /-- Not a line of R81: a known name with operands it does not take or that cannot be read, or a line that is not blank and
  has no name. -/
  | malformed
deriving DecidableEq, Repr

/-- A name with its operands, `none` where these cannot be read. The name is looked up first: an unknown one is unknown
whatever follows it (R246). The text of `print` is written as Unicode code points where a character has no ASCII code, and
one above 255 makes the line malformed (DESIGN CHOICE, log 26). -/
def decodeCall (name : String) (operands : Option (List Token)) : LineDecode :=
  let bytes := operands.bind (fun ts => if ts.isEmpty then some [] else parseOperands false true ts)
  match asmLookup name asmNames, asmLookup name pseudoNames with
  | some id, _ =>
    match bytes.map (fun bs => decodeHost (id :: bs)) with
    | some (.op i []) => .calls [i]
    | _ => .malformed
  | none, some p => if operands = some [] then .calls p.expand else .malformed
  | none, none =>
    if name = "print" then
      match operands with
      | some [.str s] =>
        if s.all (fun c => c.toNat < 256) then .calls (Pseudo.print (s.map (fun c => BitVec.ofNat 8 c.toNat))).expand
        else .malformed
      | _ => .malformed
    else if name = "poll_until_held" then
      match bytes with
      | some [b] => .poll b
      | _ => .malformed
    else .unknown name

/-- A line without the blanks at its front. -/
def skipBlanks : List Char → List Char
  | ' ' :: rest => skipBlanks rest
  | '\t' :: rest => skipBlanks rest
  | cs => cs

/-- The characters that end a name. -/
def endsName (c : Char) : Bool := [' ', '\t', ',', ';', '"', '\'', '[', ']'].contains c

/-- The name at the front of a line and what follows it: it ends at a blank, a comma, a bracket, a quote, a comment or an
arrow (DESIGN CHOICE, log 25). -/
def splitName : List Char → List Char × List Char
  | [] => ([], [])
  | c :: rest =>
    if endsName c || (c == '-' && rest.head? == some '>') then ([], c :: rest)
    else (c :: (splitName rest).1, (splitName rest).2)

/-- A line: its name, operands and an optional result name (R81). Without a name it is none, unless nothing stands on it but a
comment (log 25). -/
def decodeLine (line : String) : LineDecode :=
  match splitName (skipBlanks line.toList) with
  | ([], rest) => if lexLine none [] rest = some [] then .calls [] else .malformed
  | (w, rest) => decodeCall (String.ofList w) ((lexLine none [] rest).map stripResult)

/-- The bytes of a host operation (R70). -/
def hostBytes (i : Instr) : List Byte :=
  match encode i with
  | .host bytes => bytes
  | .wireByte _ _ => []
  | .wireNibble _ _ => []

/-- One round of `poll_until_held b`: SAMPLE_BUTTONS, then IS_HELD b (R82). -/
def pollCalls (b : Byte) : List Byte := hostBytes .sampleButtons ++ hostBytes (.isHeld b)

end Sys2Proof.Machine
end

