-- ==== Sys2Proof/Machine/Fetch.lean ====
section
/-! DEFINITION. Which agent moves next and what it runs. The display controller acts first on what it has latched, one
command, data byte or handshake nibble a step (20_memory.md R55, log 8); otherwise the block moves: an iteration of a
pending wait, or the host's next call. The controller never holds the block up: every transfer it meets takes it one step
(00_scope.md R11, 41_transmit.md R126). -/

namespace Sys2Proof.Machine

open Sys2Proof

/-- What the next step is. -/
inductive Fetch where
  /-- Run an instruction in a state from which its words have been taken. -/
  | run (i : Instr) (s : State)
  /-- A step that runs no instruction, or none at all. -/
  | done (o : Host.Outcome State Fault Refusal)

/-- What the host does with its program text when it has no call in hand (30_encoding.md R81, R82): it assembles the next
line into calls. A name that is none of the spec's raises ILLEGAL_OP (60_exceptions.md R246). -/
def fetchLine (s : State) : Host.Outcome State Fault Refusal :=
  match s.hostLines with
  | [] => .refused .hostIdle
  | .polling b :: rest =>
    if s.result = .bool true then .next { s with hostLines := rest } else .next { s with hostOps := pollCalls b }
  | .line text :: rest =>
    match decodeLine text with
    | .calls is => .next { s with hostOps := is.flatMap hostBytes, hostLines := rest }
    | .poll b => .next { s with hostOps := pollCalls b, hostLines := .polling b :: rest }
    | .unknown _ => .next (s.raise .illegalOp)
    | .malformed => .refused .malformedLine

/-- The block's next step: none once a fault is set (60_exceptions.md R241); the next iteration of a pending wait
(10_state.md R32, 44_buttons.md R222); else the host's next call, ILLEGAL_OP where its id is unassigned (R246). -/
def fetchHost (s : State) : Fetch :=
  match s.fault with
  | some code => .done (.fault (.noStep code))
  | none =>
    match s.waitBtn with
    | some b => .done (waitIter b s)
    | none =>
      match decodeHost s.hostOps with
      | .op i rest => .run i { s with hostOps := rest }
      | .illegal _ => .done (.next (s.raise .illegalOp))
      | .truncated _ => .done (.refused .incompleteOperation)
      | .empty => .done (fetchLine s)

/-- The next step of the machine. -/
def fetch (s : State) : Fetch :=
  match nextWire s.lcd.dl s.wire with
  | .run i rest => .run i { s with wire := rest }
  | .dropped rest => .done (.next { s with wire := rest })
  | .misread rest => .done (.next { s.misread with wire := rest })
  | .waiting => fetchHost s

/-- Put a word of spec/opcode_table.json where the next step takes its instruction. A host operation: its bytes are the
host's next call, with no transfer pending on the wire and no wait pending, since both would run first. A wire command:
its two transfers are pending and the controller is in 4-bit mode (logs 1, 12). -/
def State.placeWord (s : State) (nbits w : Nat) : State :=
  match decodeHost (tableBytes nbits w) with
  | .op _ rest =>
    { s with
      hostOps := (tableBytes nbits w).take ((tableBytes nbits w).length - rest.length)
      wire := []
      waitBtn := none }
  | _ =>
    let v : Byte := BitVec.ofNat 8 (w % 2 ^ nbits)
    { s with
      wire := [.transfer .cmd (v.extractLsb' 4 4), .transfer .cmd (v.extractLsb' 0 4)]
      lcd := { s.lcd with dl := false } }

end Sys2Proof.Machine
end

