-- ==== Sys2Proof/Safety.lean ====
section
/-! DEFINITION. What counts as a sound state of the machine, in the terms claims use. -/

namespace Sys2Proof.Machine

open Sys2Proof

/-! ### When an operation may run -/

/-- No fault is set and no wait is pending: a host operation has a step (60_exceptions.md R241, 10_state.md R32). -/
def State.Callable (s : State) : Prop := s.fault = none ∧ s.waitBtn = none

/-- A display or button operation runs normally (R242). -/
def State.Ready (s : State) : Prop := s.Callable ∧ s.phase = .ready

/-- What every run of the block has on its control lines between operations once it is READY: valid pins, and EN at its
idle level (10_state.md R34, 41_transmit.md R121); with the wire carrying what is driven (92_eei_decisions.md D39). -/
def State.WireReady (s : State) : Prop :=
  s.cfg.valid = true ∧ s.cfg.wireExact = true ∧ (PinMap.pin s.pins s.cfg.enPin).level = some (elec s.cfg false)

/-! ### Invariants -/

/-- The ranges of a button record (10_state.md R36, 44_buttons.md R215). -/
def Button.inRange (r : Button) : Bool :=
  decide (r.run.toNat ≤ 11) &&
    match r.last with
    | .low => decide (1 ≤ r.rep.toNat ∧ r.rep.toNat ≤ 100)
    | .high => decide (r.rep.toNat = 0 ∨ r.rep.toNat = 100)

/-- Every button record is in range. -/
def State.ButtonsInRange (s : State) : Prop := ∀ b : Fin 5, (s.btn.get b).inRange = true

/-- The control state and the Display State between steps (10_state.md R22, R24 to R29, R32, R34). -/
structure State.ControlInv (s : State) : Prop where
  /-- INIT is never seen between operations (R22). -/
  phaseSettled : s.phase ≠ .init
  /-- After begin the bus is always left in INPUT (R24). -/
  busInput : s.phase = .ready → s.busMode = .input
  /-- Only a READY block waits (44_buttons.md R222). -/
  waitReady : s.waitBtn ≠ none → s.phase = .ready
  /-- Invalid pins leave a block that is faulted for good (60_exceptions.md R247). -/
  configChecked : s.cfg.valid = true ∨ s.fault = some .badConfig
  /-- The possible function words (42_init.md R146). -/
  functionWord : s.phase = .ready → s.displayfunction = 0x00#8 ∨ s.displayfunction = 0x04#8 ∨ s.displayfunction = 0x08#8
  /-- Bits 7:3 of displaycontrol are always 0 (R26). -/
  controlWord : s.phase = .ready → s.displaycontrol &&& 0xF8#8 = 0#8
  /-- Bits 7:2 of displaymode are always 0 (R27). -/
  modeWord : s.phase = .ready → s.displaymode &&& 0xFC#8 = 0#8
  /-- A READY block has at least one line (R29). -/
  someLine : s.phase = .ready → s.numlines ≠ 0#8

/-- The pins between steps of a READY block (40_bus_direction.md R105, R106; 42_init.md R141). -/
structure State.PinInv (s : State) : Prop where
  rsOutput : s.phase = .ready → (PinMap.pin s.pins s.cfg.rsPin).mode = .output
  enOutput : s.phase = .ready → (PinMap.pin s.pins s.cfg.enPin).mode = .output
  enIdle : s.phase = .ready → (PinMap.pin s.pins s.cfg.enPin).level = some (elec s.cfg false)
  dataInput : s.phase = .ready → ∀ p ∈ s.cfg.dataPin.toList, (PinMap.pin s.pins p).mode = .inputPullup
  buttonInput : s.phase = .ready → ∀ b : Fin 5, (PinMap.pin s.pins (s.cfg.buttonPin.get b)).mode = .inputPullup

/-- The observation state is the replay of the event trace, and the wire loses, reorders and invents nothing: what is
pending is the end of what the trace has put on it (10_state.md R33, 20_memory.md R61). -/
structure State.ReplayInv (s : State) : Prop where
  pinsReplay : s.pins = pinsAfter [] s.trace
  pinsCanonical : s.pins.wf = true
  wireSuffix : ∃ consumed, s.wireLog = consumed ++ s.wire

/-- The reference controller's memories keep their canonical form, and its address counter stays inside its target
(20_memory.md R50, R63). -/
structure State.LcdInv (s : State) : Prop where
  ddramCanonical : s.lcd.ddram.wf 128 = true
  cgramCanonical : s.lcd.cgram.wf 64 = true
  addressInTarget : s.lcd.ac.toNat < s.lcd.target.size

/-! ### The shadow (10_state.md R35, 20_memory.md R55, R66) -/

/-- The state after the controller has executed all it has latched; `none` if some transfer is none of the spec's forms,
or half a byte is left over. -/
def State.absorb (s : State) : List WireItem → Option State
  | [] => some s
  | .powerUp _ _ :: rest => s.absorb rest
  | .transfer rs n :: rest =>
    if s.lcd.dl then
      match decodeWireNibble rs n with
      | none => none
      | some i =>
        match exec i s with
        | .next t => t.absorb rest
        | _ => none
    else
      match rest with
      | .transfer rs' n' :: rest' =>
        if rs = rs' then
          match decodeWireByte rs (n ++ n') with
          | none => none
          | some i =>
            match exec i s with
            | .next t => t.absorb rest'
            | _ => none
        else none
      | _ => none

/-- The Display State shadows the controller: before begin nothing has been sent; afterwards, once the controller has
executed what is pending, its function-set and display-control registers and its shift bit are those of the block's flag
words. (Its increment bit is not always: the clear command sets it, R63.) -/
structure State.ShadowInv (s : State) : Prop where
  untouched : s.phase = .uninit → s.wire = [] ∧ s.lcd.dl = true
  shadowed : s.phase = .ready → ∃ t, s.absorb s.wire = some t ∧
    t.lcd.dl = s.displayfunction.getLsbD 4 ∧ t.lcd.n = s.displayfunction.getLsbD 3 ∧
    t.lcd.f = s.displayfunction.getLsbD 2 ∧ t.lcd.d = s.displaycontrol.getLsbD 2 ∧
    t.lcd.c = s.displaycontrol.getLsbD 1 ∧ t.lcd.b = s.displaycontrol.getLsbD 0 ∧
    t.lcd.s = s.displaymode.getLsbD 0

/-- The two transfers of a byte, high nibble first (20_memory.md R53). -/
def byteTransfers (rs : Rs) (v : Byte) : List WireItem :=
  [.transfer rs (v.extractLsb' 4 4), .transfer rs (v.extractLsb' 0 4)]

/-- The last command byte sent whose bits under `mask` are `base`. -/
def lastCommand (mask base : Byte) (bytes : List (Rs × Byte)) : Option Byte :=
  ((bytes.filter (fun b => b.1 == .cmd && b.2 &&& mask == base)).getLast?).map (·.2)

/-- The items begin's steps 2 to 4 put on the wire: the power-up item and the handshake (42_init.md R143 to R145). -/
def handshakeItems (event : Nat) : List WireItem :=
  [.powerUp .cmd event, .transfer .cmd 0x3#4, .transfer .cmd 0x3#4, .transfer .cmd 0x3#4, .transfer .cmd 0x2#4]

/-- 10_state.md R35 in its own form, over everything the block has put on the wire: nothing before begin; afterwards the
handshake and whole bytes, of which the last function-set, display-control and entry-mode-set commands carry
`displayfunction`, `displaycontrol` and `displaymode`, every bit of each. -/
structure State.CommandInv (s : State) : Prop where
  nothingSent : s.phase = .uninit → s.wireLog = []
  lastSent : s.phase = .ready → ∃ (event : Nat) (bytes : List (Rs × Byte)),
    s.wireLog = handshakeItems event ++ bytes.flatMap (fun b => byteTransfers b.1 b.2) ∧
    lastCommand 0xE0#8 0x20#8 bytes = some (0x20#8 ||| s.displayfunction) ∧
    lastCommand 0xF8#8 0x08#8 bytes = some (0x08#8 ||| s.displaycontrol) ∧
    lastCommand 0xFC#8 0x04#8 bytes = some (0x04#8 ||| s.displaymode)

/-! ### Measures of an event list -/

/-- The sum of the delays of a list of events, in microseconds (41_transmit.md R127, 42_init.md R151). -/
def delayTotal : List Event → Nat
  | [] => 0
  | .delay us :: es => us + delayTotal es
  | .setMode _ _ :: es => delayTotal es
  | .drive _ _ :: es => delayTotal es
  | .read _ _ :: es => delayTotal es
  | .millis _ :: es => delayTotal es

/-- The command bytes the block can emit (30_encoding.md R79). -/
def emittable (v : Byte) : Bool :=
  v == 0x01#8 || v == 0x02#8 || (0x04#8 ≤ v && v ≤ 0x0F#8) || v == 0x18#8 || v == 0x1C#8 || v == 0x20#8 || v == 0x24#8
    || v == 0x28#8 || (0x40#8 ≤ v && v ≤ 0x78#8 && v &&& 0x07#8 == 0#8) || 0x80#8 ≤ v

end Sys2Proof.Machine
end

