-- ==== Sys2Proof/Certificates/Slice0/Obligations.lean ====
section
/-! DEFINITION. The statements for the provers. Each docstring names the rules of spec/ the statement formalises; a
statement about every state holds for every choice of the construction parameters, which are part of the state, and for
every value of the free values. -/

namespace Sys2Proof.Machine

open Sys2Proof

/-! ### What a statement says is left alone -/

/-- The Display State (10_state.md R25 to R29). -/
def SameDisplay (s t : State) : Prop :=
  t.displayfunction = s.displayfunction ∧ t.displaycontrol = s.displaycontrol ∧ t.displaymode = s.displaymode ∧
    t.rowOffsets = s.rowOffsets ∧ t.numlines = s.numlines

/-- The Button State Vector and the time of the last sample (R30, R31). -/
def SameButtons (s t : State) : Prop := t.btn = s.btn ∧ t.tLast = s.tLast

/-- Parameters, phase, fault and pending wait (R34, R22, R23, R32). -/
def SameControl (s t : State) : Prop :=
  t.cfg = s.cfg ∧ t.phase = s.phase ∧ t.fault = s.fault ∧ t.waitBtn = s.waitBtn

/-- Bus mode, pins, event trace and wire (R24, R33, 00_scope.md R12, 20_memory.md R52). -/
def SamePins (s t : State) : Prop :=
  t.busMode = s.busMode ∧ t.pins = s.pins ∧ t.trace = s.trace ∧ t.wire = s.wire

/-- The reference controller, every byte of its memories with it (20_memory.md R63). -/
def SameController (s t : State) : Prop :=
  t.lcd = s.lcd ∧ t.misreads = s.misreads ∧ ∀ k a, t.lcd.read k a = s.lcd.read k a

/-- The host's calls and the platform's answers still to come. -/
def SameInputs (s t : State) : Prop :=
  t.hostOps = s.hostOps ∧ t.hostLines = s.hostLines ∧ t.readInputs = s.readInputs ∧ t.millisInputs = s.millisInputs

/-- `s` with the block's fault register set: what a raised fault leaves (60_exceptions.md R241). -/
def Raised (s : State) (code : FaultCode) : State := { s with fault := some code }

/-- One transaction with these body events happened, which put these bytes on the wire and took at least `us`
microseconds, and nothing else on the pins' side (40_bus_direction.md R103, 41_transmit.md R122). -/
def Sent (s t : State) (body : List Event) (bytes : List (Rs × Byte)) (us : Nat) : Prop :=
  t.trace = s.trace ++ (claimEvents s.cfg ++ body ++ releaseEvents s.cfg) ∧
  delayTotal (claimEvents s.cfg ++ body ++ releaseEvents s.cfg) = us ∧
  t.pins = pinsAfter s.pins (claimEvents s.cfg ++ body ++ releaseEvents s.cfg) ∧
  t.busMode = .input ∧ t.result = .none ∧
  (s.WireReady → t.wire = s.wire ++ bytes.flatMap (fun b => byteTransfers b.1 b.2))

/-- What every display operation leaves alone (43_display_ops.md R160). -/
def DisplayOpFrame (s t : State) : Prop :=
  SameButtons s t ∧ SameControl s t ∧ SameController s t ∧ SameInputs s t

/-- What one call of the sampling routine does to a state with the bus in INPUT (44_buttons.md R210): one `Millis` draw;
below 5 ms by 16-bit subtraction nothing more; otherwise `t_last` is the draw and each button takes one step on its own
read, in index order. That draws come from the lists of inputs, where these have values, is the model's choice (log 6). -/
def SampleEffect (s t : State) : Prop :=
  ∃ now : Millis16, (∀ m, s.millisInputs[0]? = some m → now = m) ∧ t.millisInputs = s.millisInputs.tail ∧
    ((now - s.tLast).toNat < 5 → t.btn = s.btn ∧ t.tLast = s.tLast ∧ t.trace = s.trace ++ [.millis now] ∧
      t.readInputs = s.readInputs) ∧
    (5 ≤ (now - s.tLast).toNat → ∃ levels : Fin 5 → Level,
      (∀ (b : Fin 5) (l : Level), s.readInputs[b.val]? = some l → levels b = l) ∧
      t.readInputs = s.readInputs.drop 5 ∧ t.tLast = now ∧
      (∀ b, t.btn.get b = stepButton (s.btn.get b) (levels b)) ∧
      t.trace = s.trace ++ [.millis now, .read s.cfg.buttonPin.p0 (levels 0), .read s.cfg.buttonPin.p1 (levels 1),
        .read s.cfg.buttonPin.p2 (levels 2), .read s.cfg.buttonPin.p3 (levels 3),
        .read s.cfg.buttonPin.p4 (levels 4)]) ∧
    SameDisplay s t ∧ t.cfg = s.cfg ∧ t.phase = s.phase ∧ t.fault = s.fault ∧ t.busMode = s.busMode ∧
    t.pins = s.pins ∧ t.wire = s.wire ∧ t.hostOps = s.hostOps ∧ t.hostLines = s.hostLines ∧ SameController s t

/-- What a button query that changes at most one latch and the result leaves alone. -/
def QueryFrame (s t : State) : Prop :=
  SameDisplay s t ∧ SameControl s t ∧ t.tLast = s.tLast ∧ t.busMode = s.busMode ∧ t.pins = s.pins ∧
    t.wire = s.wire ∧ SameController s t ∧ t.hostOps = s.hostOps ∧ t.hostLines = s.hostLines ∧ t.millisInputs = s.millisInputs

/-- The events of a BEGIN that does not fault, in the order of 42_init.md R140, `df` being the function word it has formed. -/
def BeginEvents (P : Params) (df : Byte) : List Event :=
  let sent := fun body : List Event => claimEvents P ++ body ++ releaseEvents P
  setupPins P ++
    sent ([.delay 50000, .drive P.rsPin (elec P false), .drive P.enPin (elec P false)] ++
      write4 P 0x3#4 ++ [.delay 4500] ++ write4 P 0x3#4 ++ [.delay 4500] ++ write4 P 0x3#4 ++ [.delay 150] ++
      write4 P 0x2#4 ++ cmd P (0x20#8 ||| df)) ++
    (List.finRange 8).flatMap (fun k => sent (cmd P (BitVec.ofNat 8 (0x40 + 8 * k.val)) ++
      (List.finRange 8).flatMap (fun j => data P (P.glyphByte k j)))) ++
    sent (cmd P 0x0C#8) ++ sent (cmd P 0x01#8 ++ [.delay 2000]) ++ sent (cmd P 0x06#8)

/-- What comes before an operation's own effect (R160, R210, R220; 60_exceptions.md R241, R242): no step once a fault is
set, NOT_READY before begin. -/
def ChecksFirst (i : Instr) : Prop :=
  (∀ (s : State) (code : FaultCode), s.fault = some code → exec i s = .fault (.noStep code)) ∧
  (∀ s : State, s.Callable → s.phase ≠ .ready → exec i s = .next (Raised s .notReady))

/-- The index check of the button queries, after those (R243). -/
def ChecksIndex (i : Instr) (b : Byte) : Prop :=
  ChecksFirst i ∧ ∀ s : State, s.Ready → 5 ≤ b.toNat → exec i s = .next (Raised s .badButton)

/-- A display-control toggle of R165 to R170: the flag word changes by `f`, and its command byte is sent. -/
def ControlToggle (i : Instr) (f : Byte → Byte) : Prop :=
  ChecksFirst i ∧ ∀ s : State, s.Ready → ∃ t, exec i s = .next t ∧ t.displaycontrol = f s.displaycontrol ∧
    Sent s t (cmd s.cfg (0x08#8 ||| t.displaycontrol)) [(.cmd, 0x08#8 ||| t.displaycontrol)] 224 ∧
    t.displayfunction = s.displayfunction ∧ t.displaymode = s.displaymode ∧ t.rowOffsets = s.rowOffsets ∧
    t.numlines = s.numlines ∧ DisplayOpFrame s t

/-- An entry-mode toggle of R171 to R174. -/
def EntryToggle (i : Instr) (f : Byte → Byte) : Prop :=
  ChecksFirst i ∧ ∀ s : State, s.Ready → ∃ t, exec i s = .next t ∧ t.displaymode = f s.displaymode ∧
    Sent s t (cmd s.cfg (0x04#8 ||| t.displaymode)) [(.cmd, 0x04#8 ||| t.displaymode)] 224 ∧
    t.displayfunction = s.displayfunction ∧ t.displaycontrol = s.displaycontrol ∧ t.rowOffsets = s.rowOffsets ∧
    t.numlines = s.numlines ∧ DisplayOpFrame s t

/-- A stateless display operation: it sends these bytes in one transaction and writes none of the Display State. -/
def StatelessOp (i : Instr) (body : State → List Event) (bytes : State → List (Rs × Byte)) (us : Nat) : Prop :=
  ChecksFirst i ∧ ∀ s : State, s.Ready →
    ∃ t, exec i s = .next t ∧ Sent s t (body s) (bytes s) us ∧ SameDisplay s t ∧ DisplayOpFrame s t

/-- A wire form: it changes the reference controller to `f` of it and nothing else, the block least of all
(20_memory.md R63, R67). -/
def ControllerOp (i : Instr) (f : Lcd → Lcd) : Prop := ∀ s : State, exec i s = .next { s with lcd := f s.lcd }

/-- The electrical inverse of a level. -/
def invertLevel : Level → Level
  | .low => .high
  | .high => .low

/-- An event with the level of a control line inverted (41_transmit.md R125). -/
def invertControl (P : Params) : Event → Event
  | .drive p l => if p = P.rsPin ∨ p = P.enPin then .drive p (invertLevel l) else .drive p l
  | .setMode p d => .setMode p d
  | .delay us => .delay us
  | .read p l => .read p l
  | .millis t => .millis t

/-- The inputs of `n` ticks from `t_last = last` on, each at least 5 ms after the one before and each reading button `b`
LOW; the other buttons' levels are whatever they are. -/
def FeedsLow (b : Fin 5) : Nat → Millis16 → List Millis16 → List Level → Prop
  | 0, _, _, _ => True
  | n + 1, last, m :: ms, l0 :: l1 :: l2 :: l3 :: l4 :: ls =>
    5 ≤ (m - last).toNat ∧ [l0, l1, l2, l3, l4][b.val]? = some .low ∧ FeedsLow b n m ms ls
  | _ + 1, _, _, _ => False

end Sys2Proof.Machine

open Sys2Proof Sys2Proof.Machine

/-! ### Encoding -/

/-- R70 to R77: decoding the words of any well-formed instruction gives it back, every operand at every value. -/
def Obligations.DecodeOfEncodeIsTheInstruction : Prop := ∀ i : Instr, i.wf = true → decode (encode i) = some i

/-- R70 to R77: each word has one meaning; the words that decode to an instruction are its words, and what a decoder reads
from the host's bytes is exactly the operation's own bytes. -/
def Obligations.EachWordHasOneMeaning : Prop :=
  (∀ (c : Code) (i : Instr), decode c = some i → encode i = c ∧ i.wf = true) ∧
  (∀ (bytes rest : List Byte) (i : Instr), decodeHost bytes = .op i rest →
    ∃ w, encode i = .host w ∧ bytes = w ++ rest)

/-- R72: the length is 1 + the operand count, told from the id byte alone; an id that is not in the table has none. -/
def Obligations.HostOperationLengthFollowsItsId : Prop :=
  (∀ (id : Byte) (rest tail : List Byte) (i : Instr), decodeHost (id :: rest) = .op i tail →
    rest.length + 1 = i.units + tail.length) ∧
  (∀ (id : Byte) (rest rest' : List Byte) (i j : Instr) (tail tail' : List Byte),
    decodeHost (id :: rest) = .op i tail → decodeHost (id :: rest') = .op j tail' → i.units = j.units) ∧
  (∀ (id : Byte) (rest : List Byte), 9 ≤ rest.length →
    ((∃ i tail, decodeHost (id :: rest) = .op i tail) ↔
      (1 ≤ id.toNat ∧ id.toNat ≤ 0x13) ∨ (0x20 ≤ id.toNat ∧ id.toNat ≤ 0x24)))

/-- R78, R81, R82: the unassigned ids 0x00, 0x14 to 0x1F and 0x25 to 0xFF are illegal whatever follows them, and no other
id is; and a name is unknown, whatever operands follow it and whether or not these can be read, exactly when it is no
mnemonic and no pseudo-operation's. -/
def Obligations.ExactlyTheUnassignedIdsAreIllegal : Prop :=
  (∀ (id : Byte) (rest : List Byte), decodeHost (id :: rest) = .illegal id ↔
    (id.toNat = 0 ∨ (0x14 ≤ id.toNat ∧ id.toNat ≤ 0x1F) ∨ 0x25 ≤ id.toNat)) ∧
  (∀ (name : String) (operands : Option (List Token)), decodeCall name operands = .unknown name ↔
    name ∉ ["begin", "clear", "home", "set_cursor", "set_row_offsets", "display_on", "display_off", "cursor_on",
      "cursor_off", "blink_on", "blink_off", "left_to_right", "right_to_left", "autoscroll_on", "autoscroll_off",
      "scroll_left", "scroll_right", "create_char", "write", "sample_buttons", "take_pressed_edge", "wait_pressed_edge",
      "is_held", "raw_level"] ++
      ["print", "display", "no_display", "cursor", "no_cursor", "blink", "no_blink", "poll_until_held"])

/-- R70, R74, R76, R78, R81: words written out from the spec's encodings, one or more of each family, and two lines of
text. -/
def Obligations.WordsOfTheSpecDecode : Prop :=
  decode (.host [0x01#8, 0x10#8, 0x02#8, 0x00#8]) = some (.beginInit 16#8 2#8 0#8) ∧
  decode (.host [0x04#8, 0x00#8, 0x01#8]) = some (.setCursor 0#8 1#8) ∧
  decode (.host [0x13#8, 0x48#8]) = some (.write 0x48#8) ∧
  decode (.host [0x22#8, 0x02#8]) = some (.waitPressedEdge 2#8) ∧
  decode (.wireByte .cmd 0b11000011#8) = some (.wireSetDdramAddr 0x43#7) ∧
  decode (.wireByte .cmd 0b01011000#8) = some (.wireSetCgramAddr 24#6) ∧
  decode (.wireByte .cmd 0b00101000#8) = some (.wireFunctionSet false true false 0#2) ∧
  decode (.wireByte .cmd 0b00011100#8) = some (.wireCursorShift true true 0#2) ∧
  decode (.wireByte .cmd 0b00001100#8) = some (.wireDisplayControl true false false) ∧
  decode (.wireByte .cmd 0b00000110#8) = some (.wireEntryModeSet true false) ∧
  decode (.wireNibble .cmd 0b0010#4) = some .wireInitNibble2 ∧
  decode (.wireByte .data 0x48#8) = some (.wireDataByte 0x48#8) ∧
  decodeLine "set_cursor 0, 1 ; row 1" = .calls [.setCursor 0#8 1#8] ∧
  decodeLine "COMMAND 1" = .unknown "COMMAND" ∧ decodeLine "COMMAND 0xG" = .unknown "COMMAND"

/-! ### Steps -/

/-- A step runs the decoded instruction, the block's side (R11, R70): with nothing on the wire the controller can act on,
no fault and no pending wait, the step is the host's next call with its bytes taken; an unassigned id, and a name the
decoder does not know, raise ILLEGAL_OP in every phase (R246); and the other things a line of text can be, a
`poll_until_held` (R82) and its next round among them. That the calls stand in State as bytes and as lines of text
is the model's choice (logs 1 and 25), and so is that ILLEGAL_OP leaves them there (log 18). -/
def Obligations.StepRunsTheNextHostOperation : Prop :=
  ∀ s : State, nextWire s.lcd.dl s.wire = .waiting → s.Callable →
    (∀ i rest, decodeHost s.hostOps = .op i rest → step s = exec i { s with hostOps := rest }) ∧
    (∀ id, decodeHost s.hostOps = .illegal id → step s = .next (Raised s .illegalOp)) ∧
    (∀ text rest, s.hostOps = [] → s.hostLines = .line text :: rest →
      (∀ is, decodeLine text = .calls is → step s = .next { s with hostOps := is.flatMap hostBytes, hostLines := rest }) ∧
      (∀ b, decodeLine text = .poll b →
        step s = .next { s with hostOps := [0x20#8, 0x23#8, b], hostLines := .polling b :: rest }) ∧
      (∀ name, decodeLine text = .unknown name → step s = .next (Raised s .illegalOp)) ∧
      (decodeLine text = .malformed → step s = .refused .malformedLine)) ∧
    (∀ b rest, s.hostOps = [] → s.hostLines = .polling b :: rest →
      (s.result = .bool true → step s = .next { s with hostLines := rest }) ∧
      (s.result ≠ .bool true → step s = .next { s with hostOps := [0x20#8, 0x23#8, b] }))

/-- A step runs the decoded instruction, the controller's side (R55, R80): a lone nibble in 8-bit mode, a pair of equal RS in
4-bit mode, whose pairing into bytes is R55's general knowledge. That pending transfers come before the block's next step
(log 8), that the controller tells the two forms apart by its own interface mode `dl` (log 11), and that it takes the
power-up item off the wire unchanged (log 7) is the model's choice. -/
def Obligations.StepRunsWhatTheControllerLatched : Prop :=
  (∀ (s : State) (rs : Rs) (n : Nibble) (rest : List WireItem) (i : Instr),
    s.wire = .transfer rs n :: rest → s.lcd.dl = true → decode (.wireNibble rs n) = some i →
    step s = exec i { s with wire := rest }) ∧
  (∀ (s : State) (rs : Rs) (v : Byte) (rest : List WireItem) (i : Instr),
    s.wire = byteTransfers rs v ++ rest → s.lcd.dl = false → decode (.wireByte rs v) = some i →
    step s = exec i { s with wire := rest }) ∧
  (∀ (s : State) (rs : Rs) (k : Nat) (rest : List WireItem),
    s.wire = .powerUp rs k :: rest → step s = .next { s with wire := rest })

/-- R241: once a fault is set no host operation and no WAIT_ITER has a step. -/
def Obligations.FaultedBlockHasNoStep : Prop :=
  ∀ (s : State) (code : FaultCode), s.fault = some code →
    (∀ i : Instr, i.isWire = false → exec i s = .fault (.noStep code)) ∧
    (∀ b : Fin 5, waitIter b s = .fault (.noStep code)) ∧
    (nextWire s.lcd.dl s.wire = .waiting → step s = .fault (.noStep code))

/-- R23, R34: no step clears a fault or changes a parameter. -/
def Obligations.StepNeverClearsAFault : Prop :=
  ∀ s t : State, step s = .next t →
    t.cfg = s.cfg ∧ (∀ code : FaultCode, s.fault = some code → t.fault = some code)

/-- R22: no instruction but BEGIN writes the phase, no step leaves READY or ends in INIT, and the only move is from UNINIT to
READY. -/
def Obligations.PhaseMovesOnlyByBegin : Prop :=
  (∀ (i : Instr) (s t : State), exec i s = .next t → i.mnemonic ≠ "BEGIN" → t.phase = s.phase) ∧
  (∀ s t : State, step s = .next t → t.phase ≠ s.phase → s.phase = .uninit ∧ t.phase = .ready)

/-- R32, R222, R256: while a wait is pending the host's calls stay where they are, and the wait ends only when its button is
accepted as pressed. -/
def Obligations.WaitEndsOnlyOnItsButtonPressed : Prop :=
  ∀ (s t : State) (b : Fin 5), s.waitBtn = some b → step s = .next t →
    t.hostOps = s.hostOps ∧ t.hostLines = s.hostLines ∧ (t.waitBtn = some b ∨ (t.waitBtn = none ∧ (s.btn.get b).last = .low))

/-! ### Faults -/

/-- R242: every operation but BEGIN raises NOT_READY unless READY; BEGIN raises ALREADY_BEGUN unless UNINIT; the phase moves
only from UNINIT to READY, inside begin. -/
def Obligations.PhaseIsCheckedFirst : Prop :=
  (∀ (i : Instr) (s : State), i.isWire = false → i.mnemonic ≠ "BEGIN" → s.Callable → s.phase ≠ .ready →
    exec i s = .next (Raised s .notReady)) ∧
  (∀ (s : State) (columns lines fontSize : Byte), s.Callable → s.phase ≠ .uninit →
    exec (.beginInit columns lines fontSize) s = .next (Raised s .alreadyBegun)) ∧
  (∀ (i : Instr) (s t : State), exec i s = .next t → t.phase ≠ s.phase →
    i.mnemonic = "BEGIN" ∧ s.phase = .uninit ∧ t.phase = .ready)

/-- R243: the four button queries check the index after the phase. -/
def Obligations.ButtonIndexIsChecked : Prop :=
  ∀ b : Byte, ChecksIndex (.takePressedEdge b) b ∧ ChecksIndex (.waitPressedEdge b) b ∧ ChecksIndex (.isHeld b) b ∧
    ChecksIndex (.rawLevel b) b

/-- R152, R244: begin's two faults, the phase checked first. -/
def Obligations.BeginChecksPhaseThenLines : Prop :=
  ∀ (s : State) (columns lines fontSize : Byte), s.Callable →
    (s.phase ≠ .uninit → exec (.beginInit columns lines fontSize) s = .next (Raised s .alreadyBegun)) ∧
    (s.phase = .uninit → lines = 0#8 → exec (.beginInit columns lines fontSize) s = .next (Raised s .badLines))

/-- R245: the sampler and RAW_LEVEL raise BUS_NOT_INPUT before any pin read. -/
def Obligations.BusModeIsCheckedBeforeAnyRead : Prop :=
  ∀ s : State, s.Ready → s.busMode ≠ .input →
    exec .sampleButtons s = .next (Raised s .busNotInput) ∧
    (∀ b : Byte, b.toNat < 5 → exec (.rawLevel b) s = .next (Raised s .busNotInput)) ∧
    s.sample = Raised s .busNotInput

/-- R248 (the spec marks it [derived]): faults are precise. An operation that raises changes the fault register and nothing else: no event, no state. -/
def Obligations.FaultsArePrecise : Prop :=
  ∀ (i : Instr) (s t : State) (code : FaultCode), exec i s = .next t → s.fault = none → t.fault = some code →
    t = Raised s code

/-- R34, R247: construction faults exactly when two of the six pins are equal or a button pin is RS or EN, and such a block
has no step. -/
def Obligations.ConstructionChecksThePins : Prop :=
  ∀ P : Params,
    (((State.construct P).fault = some .badConfig) ↔
      (¬ (P.rsPin ≠ P.enPin ∧ (∀ p ∈ P.dataPin.toList, p ≠ P.rsPin ∧ p ≠ P.enPin) ∧
          P.dataPin.d0 ≠ P.dataPin.d1 ∧ P.dataPin.d0 ≠ P.dataPin.d2 ∧ P.dataPin.d0 ≠ P.dataPin.d3 ∧
          P.dataPin.d1 ≠ P.dataPin.d2 ∧ P.dataPin.d1 ≠ P.dataPin.d3 ∧ P.dataPin.d2 ≠ P.dataPin.d3 ∧
          ∀ b : Fin 5, P.buttonPin.get b ≠ P.rsPin ∧ P.buttonPin.get b ≠ P.enPin))) ∧
    (∀ ops : List Byte, (State.construct P).fault = some .badConfig →
      step { State.construct P with hostOps := ops } = .fault (.noStep .badConfig))

/-! ### Bus direction and transmit -/

/-- R101, R102, R105 (of which the spec marks [derived] that release makes no enable edge): claim makes the four data pins outputs of no known level and release makes them inputs; neither touches
RS, EN or any other pin, neither puts anything on the wire, and neither writes any other state; each waits 10 µs after its
last mode change. -/
def Obligations.ClaimAndReleaseMoveOnlyTheDataPins : Prop :=
  ∀ (s : State),
    (∀ p ∈ s.cfg.dataPin.toList, PinMap.pin s.claim.pins p = ⟨.output, none⟩ ∧
      (PinMap.pin s.release.pins p).mode = .inputPullup) ∧
    (∀ p, p ∉ s.cfg.dataPin.toList → PinMap.pin s.claim.pins p = PinMap.pin s.pins p ∧
      PinMap.pin s.release.pins p = PinMap.pin s.pins p) ∧
    s.claim.wire = s.wire ∧ s.release.wire = s.wire ∧ s.claim.busMode = .output ∧ s.release.busMode = .input ∧
    s.claim.trace = s.trace ++ s.cfg.dataPin.toList.map (fun p => .setMode p .output) ++ [.delay 10] ∧
    s.release.trace = s.trace ++ s.cfg.dataPin.toList.map (fun p => .setMode p .inputPullup) ++ [.delay 10] ∧
    (SameDisplay s s.claim ∧ SameButtons s s.claim ∧ SameControl s s.claim ∧ SameController s s.claim ∧
      SameInputs s s.claim ∧ s.claim.result = s.result) ∧
    (SameDisplay s s.release ∧ SameButtons s s.release ∧ SameControl s s.release ∧ SameController s s.release ∧
      SameInputs s s.release ∧ s.release.result = s.result)

/-- R124 (the spec marks it [derived]): a byte sent creates exactly the transfers of its high and its low nibble, from any pins with EN idle, and leaves EN
idle; by R54 whatever the polarity. It is RS and two nibble writes, each with exactly one enable pulse of R121 and one
transfer. -/
def Obligations.TransferLaw : Prop :=
  ∀ (P : Params) (n : Nat) (m : PinMap) (v : Byte) (rs : Rs), P.valid = true → P.wireExact = true →
    (PinMap.pin m P.enPin).level = some (elec P false) →
    wireAfter P n m (send P v rs) =
      [.transfer rs (BitVec.ofNat 4 (v.toNat / 16)), .transfer rs (BitVec.ofNat 4 (v.toNat % 16))] ∧
    (send P v rs).count (.drive P.enPin (elec P true)) = 2 ∧
    (PinMap.pin (pinsAfter m (send P v rs)) P.enPin).level = some (elec P false) ∧
    send P v rs = .drive P.rsPin (elec P (rs == .data)) ::
      (write4 P (BitVec.ofNat 4 (v.toNat / 16)) ++ write4 P (BitVec.ofNat 4 (v.toNat % 16))) ∧
    (∀ x : Nibble, (write4 P x).drop 4 =
        [.drive P.enPin (elec P false), .delay 1, .drive P.enPin (elec P true), .delay 1, .drive P.enPin (elec P false),
          .delay 100] ∧
      (wireAfter P n m (write4 P x)).length = 1)

/-- R127 (the spec marks it [derived]): the cost of a byte and of a nibble. -/
def Obligations.CostOfAByte : Prop :=
  ∀ (P : Params) (v : Byte) (rs : Rs) (n : Nibble), P.valid = true →
    (send P v rs).length = 21 ∧ delayTotal (send P v rs) = 204 ∧
    (send P v rs).countP (fun e => match e with | .drive p _ => p == P.rsPin | _ => false) = 1 ∧
    (send P v rs).countP (fun e => match e with | .drive p _ => p == P.enPin | _ => false) = 6 ∧
    (send P v rs).countP (fun e => match e with | .drive p _ => P.dataPin.toList.contains p | _ => false) = 8 ∧
    (send P v rs).countP (fun e => match e with | .delay _ => true | _ => false) = 6 ∧
    (write4 P n).countP (fun e => match e with | .drive p _ => P.dataPin.toList.contains p | _ => false) = 4 ∧
    (write4 P n).countP (fun e => match e with | .drive p _ => p == P.enPin | _ => false) = 3 ∧
    (write4 P n).countP (fun e => match e with | .delay _ => true | _ => false) = 3 ∧
    (write4 P n).length = 10 ∧ delayTotal (write4 P n) = 102

/-- R125 (the spec marks it [derived]): flipping the polarity switch inverts every RS and EN drive of a byte and of begin's handshake and changes nothing
else: not the events of claim, release and the pin setup, and not the transfers. -/
def Obligations.PolarityInvertsOnlyTheControlLines : Prop :=
  ∀ (P : Params) (v : Byte) (rs : Rs), P.valid = true →
    send { P with ctrlActiveLow := !P.ctrlActiveLow } v rs = (send P v rs).map (invertControl P) ∧
    claimEvents { P with ctrlActiveLow := !P.ctrlActiveLow } = claimEvents P ∧
    releaseEvents { P with ctrlActiveLow := !P.ctrlActiveLow } = releaseEvents P ∧
    setupPins { P with ctrlActiveLow := !P.ctrlActiveLow } = setupPins P ∧
    handshake { P with ctrlActiveLow := !P.ctrlActiveLow } = (handshake P).map (invertControl P) ∧
    (P.wireExact = true → ∀ (n : Nat) (m m' : PinMap), (PinMap.pin m P.enPin).level = some (elec P false) →
      (PinMap.pin m' P.enPin).level = some (invertLevel (elec P false)) →
      wireAfter { P with ctrlActiveLow := !P.ctrlActiveLow } n m' (send { P with ctrlActiveLow := !P.ctrlActiveLow } v rs) =
        wireAfter P n m (send P v rs))

/-! ### BEGIN -/

/-- R140, R141 (its last sentence marked [derived]), R146, R148, R150: begin completes from UNINIT for every operand but `lines = 0`, with this end state; the
button records, `t_last`, the controller and all inputs are untouched. -/
def Obligations.BeginCompletesWithItsEndState : Prop :=
  ∀ (s : State) (columns lines fontSize : Byte), s.Callable → s.phase = .uninit → lines ≠ 0#8 →
    ∃ t, exec (.beginInit columns lines fontSize) s = .next t ∧
      t.phase = .ready ∧ t.busMode = .input ∧ t.numlines = lines ∧
      t.rowOffsets = ⟨0x00#8, 0x40#8, columns, BitVec.ofNat 8 (0x40 + columns.toNat)⟩ ∧
      t.displayfunction = (if 1 < lines.toNat then 0x08#8 else if fontSize ≠ 0#8 then 0x04#8 else 0x00#8) ∧
      t.displaycontrol = 0x04#8 ∧ t.displaymode = 0x02#8 ∧ t.result = .none ∧
      t.cfg = s.cfg ∧ t.fault = none ∧ t.waitBtn = none ∧ SameButtons s t ∧ SameController s t ∧ SameInputs s t ∧
      (s.cfg.valid = true →
        (PinMap.pin t.pins s.cfg.rsPin).mode = .output ∧ (PinMap.pin t.pins s.cfg.enPin).mode = .output ∧
        (PinMap.pin t.pins s.cfg.enPin).level = some (elec s.cfg false) ∧
        (∀ p ∈ s.cfg.dataPin.toList, (PinMap.pin t.pins p).mode = .inputPullup) ∧
        (∀ b : Fin 5, (PinMap.pin t.pins (s.cfg.buttonPin.get b)).mode = .inputPullup))

/-- R143 to R149, R151 (of which the spec marks R149 and R151 [derived]): what begin puts on the wire, in order: the one power-up item, the handshake 3, 3, 3, 2, the function
set, the eight default glyphs, then display control, clear and entry mode; 156 transfers after the power-up item. Stated for a wire that carries the
driven levels (D39). -/
def Obligations.BeginPutsTheHandshakeOnTheWire : Prop :=
  ∀ (s : State) (columns lines fontSize : Byte), s.Callable → s.phase = .uninit → lines ≠ 0#8 → s.cfg.valid = true →
    s.cfg.wireExact = true →
    ∃ t k transfers, exec (.beginInit columns lines fontSize) s = .next t ∧
      t.wire = s.wire ++ WireItem.powerUp .cmd k :: transfers ∧ transfers.length = 156 ∧
      transfers = [.transfer .cmd 0x3#4, .transfer .cmd 0x3#4, .transfer .cmd 0x3#4, .transfer .cmd 0x2#4] ++
        ((Rs.cmd, 0x20#8 ||| t.displayfunction) ::
          (List.finRange 8).flatMap (fun k => (Rs.cmd, BitVec.ofNat 8 (0x40 + 8 * k.val)) ::
            (List.finRange 8).map (fun j => (Rs.data, s.cfg.glyphByte k j))) ++
          [(Rs.cmd, 0x0C#8), (Rs.cmd, 0x01#8), (Rs.cmd, 0x06#8)]).flatMap (fun b => byteTransfers b.1 b.2)

/-- R140, R142 to R148, R151 (the spec marks the last [derived]): begin's events, each wait where it stands; its 156
transfers beside the power-up item, its delays, and its twelve transactions: every claim and every release is followed by
its own 10 µs settle. -/
def Obligations.CostOfBegin : Prop :=
  ∀ (s : State) (columns lines fontSize : Byte), s.Callable → s.phase = .uninit → lines ≠ 0#8 →
    ∃ t es, exec (.beginInit columns lines fontSize) s = .next t ∧ t.trace = s.trace ++ es ∧
      es = BeginEvents s.cfg t.displayfunction ∧ t.pins = pinsAfter s.pins es ∧
      delayTotal es = 77302 ∧ es.count (.delay 10) = 24 ∧ es.count (.delay 100) = 156 ∧ es.count (.delay 1) = 312 ∧ es.count (.delay 50000) = 1 ∧
      es.count (.delay 4500) = 2 ∧ es.count (.delay 150) = 1 ∧ es.count (.delay 2000) = 1 ∧
      (s.cfg.valid = true → es.count (.setMode s.cfg.dataPin.d0 .output) = 12 ∧
        es.count (.setMode s.cfg.dataPin.d0 .inputPullup) = 12 ∧
        ∃ k transfers, t.wire = s.wire ++ WireItem.powerUp .cmd k :: transfers ∧ transfers.length = 156)

/-! ### Display operations -/

/-- R161, R162: clear and home send their codes and wait 2000 µs inside the transaction; they write none of the Display
State. -/
def Obligations.ClearAndHomeSendTheirCodes : Prop :=
  StatelessOp .clear (fun s => cmd s.cfg 0x01#8 ++ [.delay 2000]) (fun _ => [(.cmd, 0x01#8)]) 2224 ∧
  StatelessOp .home (fun s => cmd s.cfg 0x02#8 ++ [.delay 2000]) (fun _ => [(.cmd, 0x02#8)]) 2224

/-- R60, R163: the row is clamped to `min(4, numlines) - 1`, the address is the sum modulo 128 with bit 7 of the byte set. -/
def Obligations.SetCursorSendsTheClampedAddress : Prop :=
  ∀ col row : Byte,
    let byte := fun s : State => BitVec.ofNat 8
      (0x80 + (col.toNat + (s.rowOffsets.get (min row.toNat (min 4 s.numlines.toNat - 1))).toNat) % 128)
    StatelessOp (.setCursor col row) (fun s => cmd s.cfg (byte s)) (fun s => [(.cmd, byte s)]) 224

/-- R164: the table takes the four values; no event, no transfer, nothing else changes. -/
def Obligations.SetRowOffsetsWritesOnlyTheTable : Prop :=
  ∀ (r0 r1 r2 r3 : Byte), ChecksFirst (.setRowOffsets r0 r1 r2 r3) ∧ ∀ s : State, s.Ready →
    ∃ t, exec (.setRowOffsets r0 r1 r2 r3) s = .next t ∧
      t.rowOffsets.get 0 = r0 ∧ t.rowOffsets.get 1 = r1 ∧ t.rowOffsets.get 2 = r2 ∧ t.rowOffsets.get 3 = r3 ∧
      t.displayfunction = s.displayfunction ∧ t.displaycontrol = s.displaycontrol ∧ t.displaymode = s.displaymode ∧
      t.numlines = s.numlines ∧ t.result = .none ∧ SameButtons s t ∧ SameControl s t ∧ SamePins s t ∧
      SameController s t ∧ SameInputs s t

/-- R165 to R170, R179: each of the six toggles sets or clears its bit of displaycontrol, keeps the others, and re-sends the
word's command byte. -/
def Obligations.DisplayControlTogglesResendTheWord : Prop :=
  ControlToggle .displayOn (· ||| 0x04#8) ∧ ControlToggle .displayOff (· &&& 0xFB#8) ∧
  ControlToggle .cursorOn (· ||| 0x02#8) ∧ ControlToggle .cursorOff (· &&& 0xFD#8) ∧
  ControlToggle .blinkOn (· ||| 0x01#8) ∧ ControlToggle .blinkOff (· &&& 0xFE#8)

/-- R171 to R174, R179: the same for displaymode. -/
def Obligations.EntryModeTogglesResendTheWord : Prop :=
  EntryToggle .leftToRight (· ||| 0x02#8) ∧ EntryToggle .rightToLeft (· &&& 0xFD#8) ∧
  EntryToggle .autoscrollOn (· ||| 0x01#8) ∧ EntryToggle .autoscrollOff (· &&& 0xFE#8)

/-- R175, R176: the scrolls send 0x18 and 0x1C and write no state. -/
def Obligations.ScrollsAreStateless : Prop :=
  StatelessOp .scrollLeft (fun s => cmd s.cfg 0x18#8) (fun _ => [(.cmd, 0x18#8)]) 224 ∧
  StatelessOp .scrollRight (fun s => cmd s.cfg 0x1C#8) (fun _ => [(.cmd, 0x1C#8)]) 224

/-- R56, R177: the slot is masked to three bits, its CGRAM address is sent, then the bitmap as data bytes; none of the block's
state is written. Stated for a bitmap of any length. -/
def Obligations.CreateCharSendsAddressThenBitmap : Prop :=
  ∀ (slot : Byte) (bitmap : List Byte),
    StatelessOp (.createChar slot bitmap)
      (fun s => cmd s.cfg (BitVec.ofNat 8 (0x40 + 8 * (slot.toNat % 8))) ++ bitmap.flatMap (data s.cfg))
      (fun _ => (.cmd, BitVec.ofNat 8 (0x40 + 8 * (slot.toNat % 8))) :: bitmap.map (fun v => (.data, v)))
      (224 + 204 * bitmap.length)

/-- R178: write sends its operand unchanged as data. -/
def Obligations.WriteSendsItsByteAsData : Prop :=
  ∀ v : Byte, StatelessOp (.write v) (fun s => data s.cfg v) (fun _ => [(.data, v)]) 224

/-- R79 (the spec marks it [derived]): every command byte an operation of a READY block puts on the wire is in the spec's
list, and all it puts there is whole bytes. Stated for a wire that carries the driven levels (D39); begin's own bytes are
in BeginPutsTheHandshakeOnTheWire. -/
def Obligations.OnlyListedCommandBytesAreEmitted : Prop :=
  ∀ (i : Instr) (s t : State), i.isWire = false → s.Ready → s.WireReady → s.ControlInv → exec i s = .next t →
    ∃ bytes : List (Rs × Byte), t.wire = s.wire ++ bytes.flatMap (fun b => byteTransfers b.1 b.2) ∧
      ∀ v, (Rs.cmd, v) ∈ bytes → emittable v = true

/-! ### Buttons -/

/-- R211 to R214: the four arms of the automaton, on one record and one reading. -/
def Obligations.AutomatonArms : Prop :=
  ∀ (r : Button) (l : Level),
    (l = r.last → (stepButton r l).run = 0#8 ∧ (stepButton r l).last = r.last) ∧
    (l = r.last → l = .high → (stepButton r l).rep = r.rep ∧ (stepButton r l).latched = r.latched) ∧
    (l = r.last → l = .low → r.rep ≠ 1#8 → (stepButton r l).rep = r.rep - 1#8 ∧
      (stepButton r l).latched = r.latched) ∧
    (l = r.last → l = .low → r.rep = 1#8 → (stepButton r l).rep = 30#8 ∧ (stepButton r l).latched = true) ∧
    (l ≠ r.last → 10 < r.run.toNat → stepButton r l = ⟨l, 0#8, 100#8, r.latched || l == .low⟩) ∧
    (l ≠ r.last → r.run.toNat ≤ 10 → stepButton r l = { r with run := r.run + 1#8 })

/-- R217 (the spec marks it [derived]): with `run = r0`, consecutive ticks that all read a level other than `last` are accepted at the `(12 - r0)`-th, and
before it only `run` moves. -/
def Obligations.DebounceLatency : Prop :=
  ∀ (r : Button) (l : Level), l ≠ r.last → r.run.toNat ≤ 11 →
    (∀ k, k < 12 - r.run.toNat →
      (fun x => stepButton x l)^[k] r = { r with run := BitVec.ofNat 8 (r.run.toNat + k) }) ∧
    (fun x => stepButton x l)^[12 - r.run.toNat] r = ⟨l, 0#8, 100#8, r.latched || l == .low⟩

/-- R218 (the spec marks it [derived]): after a press is accepted at tick A, with every later tick LOW, the latch is set exactly at A+100, A+130, A+160 and
so on; a run of at most eleven HIGH ticks in between does not count down, so it delays what follows by its length. -/
def Obligations.RepeatCadence : Prop :=
  (∀ (r : Button) (k : Nat), r.last = .low → r.run = 0#8 → r.rep = 100#8 →
    (stepButton { (fun x => stepButton x .low)^[k] r with latched := false } .low).latched =
      decide (100 ≤ k + 1 ∧ (k + 1 - 100) % 30 = 0)) ∧
  (∀ (r : Button) (n : Nat), r.last = .low → r.run = 0#8 → n ≤ 11 →
    stepButton ((fun x => stepButton x .high)^[n] r) .low = stepButton r .low)

/-- R210, R216 (the latter marked [derived] by the spec): SAMPLE_BUTTONS completes with the bus in INPUT: the gate, and the
tick of five independent automata; before that its checks. That the draws are the heads of the lists of inputs, and take
them, is the model's choice (log 6). -/
def Obligations.SampleGatesThenTicks : Prop :=
  ChecksFirst .sampleButtons ∧
  (∀ s : State, s.Ready → s.busMode ≠ .input → exec .sampleButtons s = .next (Raised s .busNotInput)) ∧
  ∀ s : State, s.Ready → s.busMode = .input →
    ∃ t, exec .sampleButtons s = .next t ∧ t.result = .none ∧ t.waitBtn = none ∧ SampleEffect s t

/-- R220: after its checks, the latch is returned and cleared; no event, nothing else changes; a second call at once returns
false. -/
def Obligations.TakeDrainsTheLatchOnce : Prop :=
  ∀ b : Byte, ChecksIndex (.takePressedEdge b) b ∧ ∀ (s : State) (h : b.toNat < 5), s.Ready →
    ∃ t u, exec (.takePressedEdge b) s = .next t ∧ exec (.takePressedEdge b) t = .next u ∧
      t.result = .bool (s.btn.get ⟨b.toNat, h⟩).latched ∧ u.result = .bool false ∧ u.btn = t.btn ∧
      t.btn.get ⟨b.toNat, h⟩ = { s.btn.get ⟨b.toNat, h⟩ with latched := false } ∧
      (∀ c : Fin 5, c ≠ ⟨b.toNat, h⟩ → t.btn.get c = s.btn.get c) ∧
      t.trace = s.trace ∧ t.readInputs = s.readInputs ∧ QueryFrame s t

/-- R224, R226: the two other queries: IS_HELD returns the accepted level and consumes nothing; RAW_LEVEL returns one read of the
button's pin and changes no record and no `t_last`. Their checks come first.
That the read is the head of the list of inputs, and takes it, is the model's choice (log 6). -/
def Obligations.HeldAndRawQueries : Prop :=
  ∀ b : Byte, ChecksIndex (.isHeld b) b ∧ ChecksIndex (.rawLevel b) b ∧ ∀ (s : State) (h : b.toNat < 5), s.Ready →
    (s.busMode ≠ .input → exec (.rawLevel b) s = .next (Raised s .busNotInput)) ∧
    (∃ t, exec (.isHeld b) s = .next t ∧
      t.result = .bool (decide ((s.btn.get ⟨b.toNat, h⟩).last = .low)) ∧
      t.btn = s.btn ∧ t.trace = s.trace ∧ t.readInputs = s.readInputs ∧ QueryFrame s t) ∧
    (s.busMode = .input → ∃ t l, exec (.rawLevel b) s = .next t ∧ t.result = .level l ∧
      (∀ x, s.readInputs[0]? = some x → l = x) ∧ t.trace = s.trace ++ [.read (s.cfg.buttonPin.get ⟨b.toNat, h⟩) l] ∧
      t.btn = s.btn ∧ t.readInputs = s.readInputs.tail ∧ QueryFrame s t)

/-- R222: the entry step of a wait: it returns at once if the latch is set, consuming it iff the parameter says so; otherwise
the wait is pending. No event either way. Its checks come first. -/
def Obligations.WaitEntry : Prop :=
  ∀ b : Byte, ChecksIndex (.waitPressedEdge b) b ∧ ∀ (s : State) (h : b.toNat < 5), s.Ready →
    ∃ t, exec (.waitPressedEdge b) s = .next t ∧ t.trace = s.trace ∧
      ((s.btn.get ⟨b.toNat, h⟩).latched = false → t = { s with waitBtn := some ⟨b.toNat, h⟩ }) ∧
      ((s.btn.get ⟨b.toNat, h⟩).latched = true → t.waitBtn = none ∧ t.result = .none ∧
        t.btn.get ⟨b.toNat, h⟩ = { s.btn.get ⟨b.toNat, h⟩ with latched := !s.cfg.waitConsumesLatch } ∧
        (∀ c : Fin 5, c ≠ ⟨b.toNat, h⟩ → t.btn.get c = s.btn.get c) ∧ t.readInputs = s.readInputs ∧ QueryFrame s t)

/-- R222: an iteration of a wait, as a step: it returns without sampling if the accepted level is LOW, and samples
otherwise. That draws come from the lists of inputs (log 6) and that a pending wait leaves the result of the operation
before it (log 17) is the model's choice. -/
def Obligations.WaitIteration : Prop :=
  ∀ (s : State) (b : Fin 5), nextWire s.lcd.dl s.wire = .waiting → s.fault = none → s.waitBtn = some b →
    ((s.btn.get b).last = .low → ∃ t, step s = .next t ∧ t.waitBtn = none ∧ t.result = .none ∧ t.trace = s.trace ∧
      t.btn.get b = { s.btn.get b with latched := (s.btn.get b).latched && !s.cfg.waitConsumesLatch } ∧
      (∀ c : Fin 5, c ≠ b → t.btn.get c = s.btn.get c) ∧ t.tLast = s.tLast ∧ SameDisplay s t ∧ SameController s t ∧
      SameInputs s t ∧ t.phase = s.phase ∧ t.fault = none ∧ SamePins s t) ∧
    ((s.btn.get b).last = .high → s.busMode = .input → ∃ t, step s = .next t ∧ t.waitBtn = some b ∧
      t.result = s.result ∧ SampleEffect s t)

/-- R222 (its example), R217 (marked [derived] by the spec), on inputs given as lists (log 6): a wait for a released button whose pin reads LOW at twelve ticks in a row returns after thirteen iterations,
whatever the other four pins read. -/
def Obligations.WaitReturnsAfterThirteenIterations : Prop :=
  ∀ (s : State) (b : Fin 5), nextWire s.lcd.dl s.wire = .waiting → s.fault = none → s.waitBtn = some b →
    s.busMode = .input → (s.btn.get b).last = .high → (s.btn.get b).run = 0#8 →
    FeedsLow b 12 s.tLast s.millisInputs s.readInputs →
    ∃ t u : State, Host.Core.run Sys2Proof.core 12 s = .next t ∧ Host.Core.run Sys2Proof.core 13 s = .next u ∧
      t.waitBtn = some b ∧ t.btn.get b = ⟨.low, 0#8, 100#8, true⟩ ∧ u.waitBtn = none ∧ u.fault = none ∧
      (u.btn.get b).last = .low ∧ (u.btn.get b).latched = !s.cfg.waitConsumesLatch ∧ u.hostOps = s.hostOps ∧
      u.hostLines = s.hostLines

/-- R30, R31: only the sampling routine writes `last`, `run`, `rep` and `t_last`; only the queries that return an event clear a
latch: the sampling routine never does, called by SAMPLE_BUTTONS or by an iteration of a wait. -/
def Obligations.OnlySamplingWritesTheRecords : Prop :=
  (∀ (i : Instr) (s t : State), exec i s = .next t → i.mnemonic ≠ "SAMPLE_BUTTONS" →
    t.tLast = s.tLast ∧
    (∀ b : Fin 5, (t.btn.get b).last = (s.btn.get b).last ∧ (t.btn.get b).run = (s.btn.get b).run ∧
      (t.btn.get b).rep = (s.btn.get b).rep) ∧
    (i.mnemonic ≠ "TAKE_PRESSED_EDGE" → i.mnemonic ≠ "WAIT_PRESSED_EDGE" → t.btn = s.btn)) ∧
  (∀ (s t : State) (c : Fin 5), exec .sampleButtons s = .next t → (s.btn.get c).latched = true →
    (t.btn.get c).latched = true) ∧
  (∀ (s t : State) (b c : Fin 5), waitIter b s = .next t → (s.btn.get b).last = .high → (s.btn.get c).latched = true →
    (t.btn.get c).latched = true)

/-- R25 to R29, R37: who writes the Display State. -/
def Obligations.WritersOfTheDisplayState : Prop :=
  ∀ (i : Instr) (s t : State), exec i s = .next t →
    (t.displayfunction ≠ s.displayfunction ∨ t.numlines ≠ s.numlines → i.mnemonic = "BEGIN") ∧
    (t.rowOffsets ≠ s.rowOffsets → i.mnemonic ∈ ["BEGIN", "SET_ROW_OFFSETS"]) ∧
    (t.displaycontrol ≠ s.displaycontrol → i.mnemonic ∈
      ["BEGIN", "DISPLAY_ON", "DISPLAY_OFF", "CURSOR_ON", "CURSOR_OFF", "BLINK_ON", "BLINK_OFF"]) ∧
    (t.displaymode ≠ s.displaymode → i.mnemonic ∈
      ["BEGIN", "LEFT_TO_RIGHT", "RIGHT_TO_LEFT", "AUTOSCROLL_ON", "AUTOSCROLL_OFF"])

/-! ### The reference controller (20_memory.md R63, general knowledge) -/

/-- R63, R74, R76: the commands that set registers of the reference controller; each completes in every state and touches
nothing else. That the lone nibbles set `dl` and that clear and home undo the display shift is the model's (logs 11 and
13). -/
def Obligations.ControllerCommandsSetTheirRegisters : Prop :=
  (∀ i sh, ControllerOp (.wireEntryModeSet i sh) (fun c => { c with id := i, s := sh })) ∧
  (∀ d c b, ControllerOp (.wireDisplayControl d c b) (fun k => { k with d := d, c := c, b := b })) ∧
  (∀ l n f x, ControllerOp (.wireFunctionSet l n f x) (fun c => { c with dl := l, n := n, f := f })) ∧
  (∀ a, ControllerOp (.wireSetDdramAddr a) (fun c => { c with target := .ddram, ac := a })) ∧
  (∀ a, ControllerOp (.wireSetCgramAddr a) (fun c => { c with target := .cgram, ac := BitVec.ofNat 7 a.toNat })) ∧
  (∀ x, ControllerOp (.wireReturnHome x) (fun c => { c with target := .ddram, ac := 0#7, shift := 0 })) ∧
  ControllerOp .wireInitNibble3 (fun c => { c with dl := true }) ∧
  ControllerOp .wireInitNibble2 (fun c => { c with dl := false })

/-- R63: clear sets every DDRAM byte to 0x20, goes to DDRAM address 0 and increments from there on; CGRAM keeps every byte and
the other registers their values (that the display shift is undone is the model's, log 13). -/
def Obligations.ClearFillsTheDisplayMemory : Prop :=
  ∀ s : State, ∃ c, exec .wireClearDisplay s = .next { s with lcd := c } ∧
    (∀ a, a < 128 → c.read .ddram a = some 0x20#8) ∧ (∀ a, 128 ≤ a → c.read .ddram a = none) ∧
    (∀ a, c.read .cgram a = s.lcd.read .cgram a) ∧ c.target = .ddram ∧ c.ac = 0#7 ∧ c.id = true ∧ c.shift = 0 ∧
    c.s = s.lcd.s ∧ c.d = s.lcd.d ∧ c.c = s.lcd.c ∧ c.b = s.lcd.b ∧ c.dl = s.lcd.dl ∧ c.n = s.lcd.n ∧ c.f = s.lcd.f

/-- R63: a data byte is written at the address counter of the target and at no other address of either memory; the counter moves
by one with the entry mode, modulo the target's size; the registers stay. -/
def Obligations.DataByteIsWrittenAtTheAddressCounter : Prop :=
  ∀ (s : State) (v : Byte), s.lcd.ac.toNat < s.lcd.target.size →
    ∃ c, exec (.wireDataByte v) s = .next { s with lcd := c } ∧
      c.read s.lcd.target s.lcd.ac.toNat = some v ∧
      (∀ k a, k ≠ s.lcd.target ∨ a ≠ s.lcd.ac.toNat → c.read k a = s.lcd.read k a) ∧
      c.target = s.lcd.target ∧
      c.ac.toNat = (if s.lcd.id then s.lcd.ac.toNat + 1 else s.lcd.ac.toNat + s.lcd.target.size - 1) % s.lcd.target.size ∧
      c.id = s.lcd.id ∧ c.s = s.lcd.s ∧ c.d = s.lcd.d ∧ c.c = s.lcd.c ∧ c.b = s.lcd.b ∧ c.dl = s.lcd.dl ∧
      c.n = s.lcd.n ∧ c.f = s.lcd.f ∧ (s.lcd.s = false → c.shift = s.lcd.shift)

/-- R63, R74: a cursor or display shift has no memory effect. What it moves (the display shift by one, or the address counter by
one) is the model's reading of R74 and R175 (log 13). -/
def Obligations.CursorShiftHasNoMemoryEffect : Prop :=
  ∀ (s : State) (sh right : Bool) (x : BitVec 2), s.lcd.ac.toNat < s.lcd.target.size →
    ∃ c, exec (.wireCursorShift sh right x) s = .next { s with lcd := c } ∧
      (∀ k a, c.read k a = s.lcd.read k a) ∧ c.target = s.lcd.target ∧
      (sh = true → c.ac = s.lcd.ac ∧ c.shift = s.lcd.shift + (if right then 1 else -1)) ∧
      (sh = false → c.shift = s.lcd.shift ∧ c.ac.toNat =
        (if right then s.lcd.ac.toNat + 1 else s.lcd.ac.toNat + s.lcd.target.size - 1) % s.lcd.target.size) ∧
      c.id = s.lcd.id ∧ c.s = s.lcd.s ∧ c.d = s.lcd.d ∧ c.c = s.lcd.c ∧ c.b = s.lcd.b ∧ c.dl = s.lcd.dl ∧
      c.n = s.lcd.n ∧ c.f = s.lcd.f

/-- R66, R67, with the controller as the second agent (log 8): the block never reads the controller and never writes it but
through the wire. A host operation leaves it alone and does the same whatever the controller is; a wire form leaves
everything else alone. -/
def Obligations.BlockAndControllerMeetOnlyOnTheWire : Prop :=
  (∀ (i : Instr) (s t : State), exec i s = .next t →
    (i.isWire = false → SameController s t) ∧ (i.isWire = true → t = { s with lcd := t.lcd })) ∧
  (∀ (i : Instr) (s : State) (c : Lcd), i.isWire = false → exec i { s with lcd := c } =
    match exec i s with
    | .next t => .next { t with lcd := c }
    | .fault f => .fault f
    | .refused r => .refused r)

/-- What `absorb` computes is what the steps of the machine do: a wire that can be absorbed is executed to its end by steps
alone, which touch nothing but the wire and the controller. And the controller never holds the block up (R11, R126):
whatever the wire carries, after at most as many steps as it has items the block is to move, with nothing else changed.
That the wire is executed before the block moves, that the power-up item is passed over, and what the controller does with
transfers without a meaning is the model's choice (logs 8, 7 and 20); the pairing is R55's general knowledge. -/
def Obligations.StepsExecuteTheWire : Prop :=
  (∀ s t : State, s.absorb s.wire = some t →
    ∃ k, Host.Core.run Sys2Proof.core k s = .next { s with wire := [], lcd := t.lcd }) ∧
  (∀ s : State, ∃ (k : Nat) (w : List WireItem) (c : Lcd) (m : Nat), k ≤ s.wire.length ∧ nextWire c.dl w = .waiting ∧
    Host.Core.run Sys2Proof.core k s = .next { s with wire := w, lcd := c, misreads := m })

/-- R56, R177, with R63 (general knowledge): what CREATE_CHAR uploads is what the controller then holds: the eight bytes from
`8 * (slot mod 8)` on, upwards where the entry mode increments and downwards where it decrements, every other byte of both
memories as before, the address counter past the glyph in CGRAM (R276). Stated for a wire that carries the driven levels
(D39). -/
def Obligations.GlyphReachesTheController : Prop :=
  ∀ (s : State) (slot : Byte) (bitmap : List Byte), bitmap.length = 8 → s.Ready → s.WireReady → s.wire = [] →
    s.lcd.dl = false →
    let addr := fun j : Nat => (8 * (slot.toNat % 8) + (if s.lcd.id then j else 64 - j)) % 64
    ∃ t u, exec (.createChar slot bitmap) s = .next t ∧ t.absorb t.wire = some u ∧
      (∀ j, j < 8 → u.lcd.read .cgram (addr j) = bitmap[j]?) ∧
      (∀ a, (∀ j, j < 8 → a ≠ addr j) → u.lcd.read .cgram a = s.lcd.read .cgram a) ∧
      (∀ a, u.lcd.read .ddram a = s.lcd.read .ddram a) ∧ u.lcd.target = .cgram ∧ u.lcd.ac.toNat = addr 8

/-- R163, R178, with R63 (general knowledge): SET_CURSOR then WRITE puts the byte at the address of (col, row). -/
def Obligations.WrittenByteReachesTheCursor : Prop :=
  ∀ (s : State) (col row v : Byte), s.Ready → s.WireReady → s.wire = [] → s.lcd.dl = false →
    ∃ t u w, exec (.setCursor col row) s = .next t ∧ exec (.write v) t = .next u ∧ u.absorb u.wire = some w ∧
      w.lcd.read .ddram
        ((col.toNat + (s.rowOffsets.get (min row.toNat (min 4 s.numlines.toNat - 1))).toNat) % 128) = some v ∧
      w.lcd.target = .ddram

/-! ### Invariants -/

/-- R271, with the controller just powered on (log 28) at the values the model names (logs 9 and 10): construction, with any parameters and any inputs, meets every invariant. -/
def Obligations.InvariantsHoldAtConstruction : Prop :=
  ∀ (P : Params) (ops : List Byte) (lines : List HostText) (ls : List Level) (ms : List Millis16),
    let s := { State.construct P with hostOps := ops, hostLines := lines, readInputs := ls, millisInputs := ms }
    s.ButtonsInRange ∧ s.ControlInv ∧ s.PinInv ∧ s.ReplayInv ∧ s.LcdInv ∧ s.ShadowInv ∧ s.CommandInv

/-- R36, R215 (the spec marks both [derived]): every step keeps every button record in range. -/
def Obligations.StepKeepsButtonsInRange : Prop :=
  ∀ s t : State, s.ButtonsInRange → step s = .next t → t.ButtonsInRange

/-- R22, R24 to R29, R32, and R23, R34, R247 for `valid pins or BAD_CONFIG`: every step keeps the control state and the flag
words sound. That a READY block's bus is in INPUT is R24's last sentence, which the spec marks [derived]; the bit positions
of the flag words are general knowledge (log 19). -/
def Obligations.StepKeepsControlSound : Prop :=
  ∀ s t : State, s.ControlInv → step s = .next t → t.ControlInv

/-- R105, R106, R141: every step keeps the pins of a READY block: control lines out, EN idle, data and button pins in. -/
def Obligations.StepKeepsPinsReleased : Prop :=
  ∀ s t : State, s.ControlInv → s.PinInv → step s = .next t → t.PinInv

/-- R33, R52 (its latching edge is general knowledge), R61: every step keeps the pins the replay of the trace and the pending
wire the end of what the trace put there. -/
def Obligations.StepKeepsReplay : Prop := ∀ s t : State, s.ReplayInv → step s = .next t → t.ReplayInv

/-- R50, R63 (general knowledge): every step keeps both controller memories canonical and the address counter in its target.
That a cursor shift (log 13) and a transfer without a meaning (log 20) keep the counter there is the model's choice, and so
are the list form of the memories and their unwritten bytes (log 10). -/
def Obligations.StepKeepsControllerMemoriesCanonical : Prop := ∀ s t : State, s.LcdInv → step s = .next t → t.LcdInv

/-- R35, R55, R179 (the spec marks the first and the last [derived], R55 is general knowledge; the schedule is log 8): every
step keeps the Display State a shadow of the controller, its increment bit left out, and the wire readable to its end; and,
R35's own form, every step keeps the last function-set, display-control and entry-mode-set commands the block has put on the
wire carrying its three flag words, the increment bit with them. Stated for a wire that carries the driven levels (D39). -/
def Obligations.StepKeepsTheShadow : Prop :=
  ∀ s t : State, s.ControlInv → s.PinInv → s.cfg.wireExact = true → step s = .next t →
    (s.ShadowInv → t.ShadowInv) ∧ (s.ReplayInv → s.CommandInv → t.CommandInv)

/-- R228, R245, R55 (inferences the spec marks as its own): in a sound state the bus-mode guard never fires, and the
controller never meets transfers without a meaning. A step refuses only for want of a host's call that can be read, whatever
the wire carries. -/
def Obligations.SoundStatesNeverMisread : Prop :=
  (∀ s : State, s.ControlInv → s.ShadowInv →
    (∀ t, step s = .next t → t.fault = some .busNotInput → s.fault = some .busNotInput) ∧
    (∀ t, step s = .next t → t.misreads = s.misreads) ∧ (∀ rest, nextWire s.lcd.dl s.wire ≠ .misread rest)) ∧
  (∀ (s : State) (why : Refusal), step s = .refused why →
    nextWire s.lcd.dl s.wire = .waiting ∧ s.Callable ∧
      (why = .hostIdle ∨ why = .incompleteOperation ∨ why = .malformedLine))
end

