-- ==== Sys2Proof/Laws/State.lean ====
section
/-! SUPPORT. What each shared update of State does to each field: one lemma a field and update, so that no later proof
unfolds a record update. -/

namespace Sys2Proof.Machine

open Sys2Proof

/-! ### State.emit -/

@[simp] theorem State.emit_cfg (s : State) (es : List Event) : (s.emit es).cfg = s.cfg := rfl

@[simp] theorem State.emit_phase (s : State) (es : List Event) : (s.emit es).phase = s.phase := rfl

@[simp] theorem State.emit_fault (s : State) (es : List Event) : (s.emit es).fault = s.fault := rfl

@[simp] theorem State.emit_busMode (s : State) (es : List Event) : (s.emit es).busMode = s.busMode := rfl

@[simp] theorem State.emit_displayfunction (s : State) (es : List Event) : (s.emit es).displayfunction = s.displayfunction :=
  rfl

@[simp] theorem State.emit_displaycontrol (s : State) (es : List Event) : (s.emit es).displaycontrol = s.displaycontrol :=
  rfl

@[simp] theorem State.emit_displaymode (s : State) (es : List Event) : (s.emit es).displaymode = s.displaymode := rfl

@[simp] theorem State.emit_rowOffsets (s : State) (es : List Event) : (s.emit es).rowOffsets = s.rowOffsets := rfl

@[simp] theorem State.emit_numlines (s : State) (es : List Event) : (s.emit es).numlines = s.numlines := rfl

@[simp] theorem State.emit_btn (s : State) (es : List Event) : (s.emit es).btn = s.btn := rfl

@[simp] theorem State.emit_tLast (s : State) (es : List Event) : (s.emit es).tLast = s.tLast := rfl

@[simp] theorem State.emit_waitBtn (s : State) (es : List Event) : (s.emit es).waitBtn = s.waitBtn := rfl

@[simp] theorem State.emit_pins (s : State) (es : List Event) : (s.emit es).pins = pinsAfter s.pins es := rfl

@[simp] theorem State.emit_trace (s : State) (es : List Event) : (s.emit es).trace = s.trace ++ es := rfl

@[simp] theorem State.emit_result (s : State) (es : List Event) : (s.emit es).result = s.result := rfl

@[simp] theorem State.emit_wire (s : State) (es : List Event) : (s.emit es).wire = s.wire ++ wireAfter s.cfg s.trace.length s.pins es :=
  rfl

@[simp] theorem State.emit_lcd (s : State) (es : List Event) : (s.emit es).lcd = s.lcd := rfl

@[simp] theorem State.emit_misreads (s : State) (es : List Event) : (s.emit es).misreads = s.misreads := rfl

@[simp] theorem State.emit_hostOps (s : State) (es : List Event) : (s.emit es).hostOps = s.hostOps := rfl

@[simp] theorem State.emit_hostLines (s : State) (es : List Event) : (s.emit es).hostLines = s.hostLines := rfl

@[simp] theorem State.emit_readInputs (s : State) (es : List Event) : (s.emit es).readInputs = s.readInputs := rfl

@[simp] theorem State.emit_millisInputs (s : State) (es : List Event) : (s.emit es).millisInputs = s.millisInputs :=
  rfl

/-! ### State.raise -/

@[simp] theorem State.raise_cfg (s : State) (c : FaultCode) : (s.raise c).cfg = s.cfg := rfl

@[simp] theorem State.raise_phase (s : State) (c : FaultCode) : (s.raise c).phase = s.phase := rfl

@[simp] theorem State.raise_fault (s : State) (c : FaultCode) : (s.raise c).fault = some c := rfl

@[simp] theorem State.raise_busMode (s : State) (c : FaultCode) : (s.raise c).busMode = s.busMode := rfl

@[simp] theorem State.raise_displayfunction (s : State) (c : FaultCode) : (s.raise c).displayfunction = s.displayfunction :=
  rfl

@[simp] theorem State.raise_displaycontrol (s : State) (c : FaultCode) : (s.raise c).displaycontrol = s.displaycontrol :=
  rfl

@[simp] theorem State.raise_displaymode (s : State) (c : FaultCode) : (s.raise c).displaymode = s.displaymode := rfl

@[simp] theorem State.raise_rowOffsets (s : State) (c : FaultCode) : (s.raise c).rowOffsets = s.rowOffsets := rfl

@[simp] theorem State.raise_numlines (s : State) (c : FaultCode) : (s.raise c).numlines = s.numlines := rfl

@[simp] theorem State.raise_btn (s : State) (c : FaultCode) : (s.raise c).btn = s.btn := rfl

@[simp] theorem State.raise_tLast (s : State) (c : FaultCode) : (s.raise c).tLast = s.tLast := rfl

@[simp] theorem State.raise_waitBtn (s : State) (c : FaultCode) : (s.raise c).waitBtn = s.waitBtn := rfl

@[simp] theorem State.raise_pins (s : State) (c : FaultCode) : (s.raise c).pins = s.pins := rfl

@[simp] theorem State.raise_trace (s : State) (c : FaultCode) : (s.raise c).trace = s.trace := rfl

@[simp] theorem State.raise_result (s : State) (c : FaultCode) : (s.raise c).result = s.result := rfl

@[simp] theorem State.raise_wire (s : State) (c : FaultCode) : (s.raise c).wire = s.wire := rfl

@[simp] theorem State.raise_lcd (s : State) (c : FaultCode) : (s.raise c).lcd = s.lcd := rfl

@[simp] theorem State.raise_misreads (s : State) (c : FaultCode) : (s.raise c).misreads = s.misreads := rfl

@[simp] theorem State.raise_hostOps (s : State) (c : FaultCode) : (s.raise c).hostOps = s.hostOps := rfl

@[simp] theorem State.raise_hostLines (s : State) (c : FaultCode) : (s.raise c).hostLines = s.hostLines := rfl

@[simp] theorem State.raise_readInputs (s : State) (c : FaultCode) : (s.raise c).readInputs = s.readInputs := rfl

@[simp] theorem State.raise_millisInputs (s : State) (c : FaultCode) : (s.raise c).millisInputs = s.millisInputs := rfl

/-! ### State.returning -/

@[simp] theorem State.returning_cfg (s : State) (r : Result) : (s.returning r).cfg = s.cfg := rfl

@[simp] theorem State.returning_phase (s : State) (r : Result) : (s.returning r).phase = s.phase := rfl

@[simp] theorem State.returning_fault (s : State) (r : Result) : (s.returning r).fault = s.fault := rfl

@[simp] theorem State.returning_busMode (s : State) (r : Result) : (s.returning r).busMode = s.busMode := rfl

@[simp] theorem State.returning_displayfunction (s : State) (r : Result) : (s.returning r).displayfunction = s.displayfunction :=
  rfl

@[simp] theorem State.returning_displaycontrol (s : State) (r : Result) : (s.returning r).displaycontrol = s.displaycontrol :=
  rfl

@[simp] theorem State.returning_displaymode (s : State) (r : Result) : (s.returning r).displaymode = s.displaymode :=
  rfl

@[simp] theorem State.returning_rowOffsets (s : State) (r : Result) : (s.returning r).rowOffsets = s.rowOffsets := rfl

@[simp] theorem State.returning_numlines (s : State) (r : Result) : (s.returning r).numlines = s.numlines := rfl

@[simp] theorem State.returning_btn (s : State) (r : Result) : (s.returning r).btn = s.btn := rfl

@[simp] theorem State.returning_tLast (s : State) (r : Result) : (s.returning r).tLast = s.tLast := rfl

@[simp] theorem State.returning_waitBtn (s : State) (r : Result) : (s.returning r).waitBtn = s.waitBtn := rfl

@[simp] theorem State.returning_pins (s : State) (r : Result) : (s.returning r).pins = s.pins := rfl

@[simp] theorem State.returning_trace (s : State) (r : Result) : (s.returning r).trace = s.trace := rfl

@[simp] theorem State.returning_result (s : State) (r : Result) : (s.returning r).result = r := rfl

@[simp] theorem State.returning_wire (s : State) (r : Result) : (s.returning r).wire = s.wire := rfl

@[simp] theorem State.returning_lcd (s : State) (r : Result) : (s.returning r).lcd = s.lcd := rfl

@[simp] theorem State.returning_misreads (s : State) (r : Result) : (s.returning r).misreads = s.misreads := rfl

@[simp] theorem State.returning_hostOps (s : State) (r : Result) : (s.returning r).hostOps = s.hostOps := rfl

@[simp] theorem State.returning_hostLines (s : State) (r : Result) : (s.returning r).hostLines = s.hostLines := rfl

@[simp] theorem State.returning_readInputs (s : State) (r : Result) : (s.returning r).readInputs = s.readInputs := rfl

@[simp] theorem State.returning_millisInputs (s : State) (r : Result) : (s.returning r).millisInputs = s.millisInputs :=
  rfl

/-! ### State.claim -/

@[simp] theorem State.claim_cfg (s : State) : (s.claim).cfg = s.cfg := rfl

@[simp] theorem State.claim_phase (s : State) : (s.claim).phase = s.phase := rfl

@[simp] theorem State.claim_fault (s : State) : (s.claim).fault = s.fault := rfl

@[simp] theorem State.claim_busMode (s : State) : (s.claim).busMode = .output := rfl

@[simp] theorem State.claim_displayfunction (s : State) : (s.claim).displayfunction = s.displayfunction := rfl

@[simp] theorem State.claim_displaycontrol (s : State) : (s.claim).displaycontrol = s.displaycontrol := rfl

@[simp] theorem State.claim_displaymode (s : State) : (s.claim).displaymode = s.displaymode := rfl

@[simp] theorem State.claim_rowOffsets (s : State) : (s.claim).rowOffsets = s.rowOffsets := rfl

@[simp] theorem State.claim_numlines (s : State) : (s.claim).numlines = s.numlines := rfl

@[simp] theorem State.claim_btn (s : State) : (s.claim).btn = s.btn := rfl

@[simp] theorem State.claim_tLast (s : State) : (s.claim).tLast = s.tLast := rfl

@[simp] theorem State.claim_waitBtn (s : State) : (s.claim).waitBtn = s.waitBtn := rfl

@[simp] theorem State.claim_pins (s : State) : (s.claim).pins = pinsAfter s.pins (claimEvents s.cfg) := rfl

@[simp] theorem State.claim_trace (s : State) : (s.claim).trace = s.trace ++ claimEvents s.cfg := rfl

@[simp] theorem State.claim_result (s : State) : (s.claim).result = s.result := rfl

@[simp] theorem State.claim_wire (s : State) : (s.claim).wire = s.wire ++ wireAfter s.cfg s.trace.length s.pins (claimEvents s.cfg) :=
  rfl

@[simp] theorem State.claim_lcd (s : State) : (s.claim).lcd = s.lcd := rfl

@[simp] theorem State.claim_misreads (s : State) : (s.claim).misreads = s.misreads := rfl

@[simp] theorem State.claim_hostOps (s : State) : (s.claim).hostOps = s.hostOps := rfl

@[simp] theorem State.claim_hostLines (s : State) : (s.claim).hostLines = s.hostLines := rfl

@[simp] theorem State.claim_readInputs (s : State) : (s.claim).readInputs = s.readInputs := rfl

@[simp] theorem State.claim_millisInputs (s : State) : (s.claim).millisInputs = s.millisInputs := rfl

/-! ### State.release -/

@[simp] theorem State.release_cfg (s : State) : (s.release).cfg = s.cfg := rfl

@[simp] theorem State.release_phase (s : State) : (s.release).phase = s.phase := rfl

@[simp] theorem State.release_fault (s : State) : (s.release).fault = s.fault := rfl

@[simp] theorem State.release_busMode (s : State) : (s.release).busMode = .input := rfl

@[simp] theorem State.release_displayfunction (s : State) : (s.release).displayfunction = s.displayfunction := rfl

@[simp] theorem State.release_displaycontrol (s : State) : (s.release).displaycontrol = s.displaycontrol := rfl

@[simp] theorem State.release_displaymode (s : State) : (s.release).displaymode = s.displaymode := rfl

@[simp] theorem State.release_rowOffsets (s : State) : (s.release).rowOffsets = s.rowOffsets := rfl

@[simp] theorem State.release_numlines (s : State) : (s.release).numlines = s.numlines := rfl

@[simp] theorem State.release_btn (s : State) : (s.release).btn = s.btn := rfl

@[simp] theorem State.release_tLast (s : State) : (s.release).tLast = s.tLast := rfl

@[simp] theorem State.release_waitBtn (s : State) : (s.release).waitBtn = s.waitBtn := rfl

@[simp] theorem State.release_pins (s : State) : (s.release).pins = pinsAfter s.pins (releaseEvents s.cfg) := rfl

@[simp] theorem State.release_trace (s : State) : (s.release).trace = s.trace ++ releaseEvents s.cfg := rfl

@[simp] theorem State.release_result (s : State) : (s.release).result = s.result := rfl

@[simp] theorem State.release_wire (s : State) : (s.release).wire = s.wire ++ wireAfter s.cfg s.trace.length s.pins (releaseEvents s.cfg) :=
  rfl

@[simp] theorem State.release_lcd (s : State) : (s.release).lcd = s.lcd := rfl

@[simp] theorem State.release_misreads (s : State) : (s.release).misreads = s.misreads := rfl

@[simp] theorem State.release_hostOps (s : State) : (s.release).hostOps = s.hostOps := rfl

@[simp] theorem State.release_hostLines (s : State) : (s.release).hostLines = s.hostLines := rfl

@[simp] theorem State.release_readInputs (s : State) : (s.release).readInputs = s.readInputs := rfl

@[simp] theorem State.release_millisInputs (s : State) : (s.release).millisInputs = s.millisInputs := rfl

/-! ### State.transaction -/

@[simp] theorem State.transaction_cfg (s : State) (body : List Event) : (s.transaction body).cfg = s.cfg := rfl

@[simp] theorem State.transaction_phase (s : State) (body : List Event) : (s.transaction body).phase = s.phase := rfl

@[simp] theorem State.transaction_fault (s : State) (body : List Event) : (s.transaction body).fault = s.fault := rfl

@[simp] theorem State.transaction_busMode (s : State) (body : List Event) : (s.transaction body).busMode = .input :=
  rfl

@[simp] theorem State.transaction_displayfunction (s : State) (body : List Event) : (s.transaction body).displayfunction = s.displayfunction :=
  rfl

@[simp] theorem State.transaction_displaycontrol (s : State) (body : List Event) : (s.transaction body).displaycontrol = s.displaycontrol :=
  rfl

@[simp] theorem State.transaction_displaymode (s : State) (body : List Event) : (s.transaction body).displaymode = s.displaymode :=
  rfl

@[simp] theorem State.transaction_rowOffsets (s : State) (body : List Event) : (s.transaction body).rowOffsets = s.rowOffsets :=
  rfl

@[simp] theorem State.transaction_numlines (s : State) (body : List Event) : (s.transaction body).numlines = s.numlines :=
  rfl

@[simp] theorem State.transaction_btn (s : State) (body : List Event) : (s.transaction body).btn = s.btn := rfl

@[simp] theorem State.transaction_tLast (s : State) (body : List Event) : (s.transaction body).tLast = s.tLast := rfl

@[simp] theorem State.transaction_waitBtn (s : State) (body : List Event) : (s.transaction body).waitBtn = s.waitBtn :=
  rfl

@[simp] theorem State.transaction_result (s : State) (body : List Event) : (s.transaction body).result = s.result :=
  rfl

@[simp] theorem State.transaction_lcd (s : State) (body : List Event) : (s.transaction body).lcd = s.lcd := rfl

@[simp] theorem State.transaction_misreads (s : State) (body : List Event) : (s.transaction body).misreads = s.misreads :=
  rfl

@[simp] theorem State.transaction_hostOps (s : State) (body : List Event) : (s.transaction body).hostOps = s.hostOps :=
  rfl

@[simp] theorem State.transaction_hostLines (s : State) (body : List Event) : (s.transaction body).hostLines = s.hostLines :=
  rfl

@[simp] theorem State.transaction_readInputs (s : State) (body : List Event) : (s.transaction body).readInputs = s.readInputs :=
  rfl

@[simp] theorem State.transaction_millisInputs (s : State) (body : List Event) : (s.transaction body).millisInputs = s.millisInputs :=
  rfl

/-! ### State.clearLatch -/

@[simp] theorem State.clearLatch_cfg (s : State) (b : Fin 5) : (s.clearLatch b).cfg = s.cfg := rfl

@[simp] theorem State.clearLatch_phase (s : State) (b : Fin 5) : (s.clearLatch b).phase = s.phase := rfl

@[simp] theorem State.clearLatch_fault (s : State) (b : Fin 5) : (s.clearLatch b).fault = s.fault := rfl

@[simp] theorem State.clearLatch_busMode (s : State) (b : Fin 5) : (s.clearLatch b).busMode = s.busMode := rfl

@[simp] theorem State.clearLatch_displayfunction (s : State) (b : Fin 5) : (s.clearLatch b).displayfunction = s.displayfunction :=
  rfl

@[simp] theorem State.clearLatch_displaycontrol (s : State) (b : Fin 5) : (s.clearLatch b).displaycontrol = s.displaycontrol :=
  rfl

@[simp] theorem State.clearLatch_displaymode (s : State) (b : Fin 5) : (s.clearLatch b).displaymode = s.displaymode :=
  rfl

@[simp] theorem State.clearLatch_rowOffsets (s : State) (b : Fin 5) : (s.clearLatch b).rowOffsets = s.rowOffsets := rfl

@[simp] theorem State.clearLatch_numlines (s : State) (b : Fin 5) : (s.clearLatch b).numlines = s.numlines := rfl

@[simp] theorem State.clearLatch_btn (s : State) (b : Fin 5) : (s.clearLatch b).btn = s.btn.set b { s.btn.get b with latched := false } :=
  rfl

@[simp] theorem State.clearLatch_tLast (s : State) (b : Fin 5) : (s.clearLatch b).tLast = s.tLast := rfl

@[simp] theorem State.clearLatch_waitBtn (s : State) (b : Fin 5) : (s.clearLatch b).waitBtn = s.waitBtn := rfl

@[simp] theorem State.clearLatch_pins (s : State) (b : Fin 5) : (s.clearLatch b).pins = s.pins := rfl

@[simp] theorem State.clearLatch_trace (s : State) (b : Fin 5) : (s.clearLatch b).trace = s.trace := rfl

@[simp] theorem State.clearLatch_result (s : State) (b : Fin 5) : (s.clearLatch b).result = s.result := rfl

@[simp] theorem State.clearLatch_wire (s : State) (b : Fin 5) : (s.clearLatch b).wire = s.wire := rfl

@[simp] theorem State.clearLatch_lcd (s : State) (b : Fin 5) : (s.clearLatch b).lcd = s.lcd := rfl

@[simp] theorem State.clearLatch_misreads (s : State) (b : Fin 5) : (s.clearLatch b).misreads = s.misreads := rfl

@[simp] theorem State.clearLatch_hostOps (s : State) (b : Fin 5) : (s.clearLatch b).hostOps = s.hostOps := rfl

@[simp] theorem State.clearLatch_hostLines (s : State) (b : Fin 5) : (s.clearLatch b).hostLines = s.hostLines := rfl

@[simp] theorem State.clearLatch_readInputs (s : State) (b : Fin 5) : (s.clearLatch b).readInputs = s.readInputs := rfl

@[simp] theorem State.clearLatch_millisInputs (s : State) (b : Fin 5) : (s.clearLatch b).millisInputs = s.millisInputs :=
  rfl

/-! ### State.drawRead -/

@[simp] theorem State.drawRead_cfg (s : State) (p : PinId) : (s.drawRead p).2.cfg = s.cfg := by
  unfold State.drawRead; split <;> rfl

@[simp] theorem State.drawRead_phase (s : State) (p : PinId) : (s.drawRead p).2.phase = s.phase := by
  unfold State.drawRead; split <;> rfl

@[simp] theorem State.drawRead_fault (s : State) (p : PinId) : (s.drawRead p).2.fault = s.fault := by
  unfold State.drawRead; split <;> rfl

@[simp] theorem State.drawRead_busMode (s : State) (p : PinId) : (s.drawRead p).2.busMode = s.busMode := by
  unfold State.drawRead; split <;> rfl

@[simp] theorem State.drawRead_displayfunction (s : State) (p : PinId) : (s.drawRead p).2.displayfunction = s.displayfunction :=
  by
  unfold State.drawRead; split <;> rfl

@[simp] theorem State.drawRead_displaycontrol (s : State) (p : PinId) : (s.drawRead p).2.displaycontrol = s.displaycontrol :=
  by
  unfold State.drawRead; split <;> rfl

@[simp] theorem State.drawRead_displaymode (s : State) (p : PinId) : (s.drawRead p).2.displaymode = s.displaymode :=
  by
  unfold State.drawRead; split <;> rfl

@[simp] theorem State.drawRead_rowOffsets (s : State) (p : PinId) : (s.drawRead p).2.rowOffsets = s.rowOffsets := by
  unfold State.drawRead; split <;> rfl

@[simp] theorem State.drawRead_numlines (s : State) (p : PinId) : (s.drawRead p).2.numlines = s.numlines := by
  unfold State.drawRead; split <;> rfl

@[simp] theorem State.drawRead_btn (s : State) (p : PinId) : (s.drawRead p).2.btn = s.btn := by
  unfold State.drawRead; split <;> rfl

@[simp] theorem State.drawRead_tLast (s : State) (p : PinId) : (s.drawRead p).2.tLast = s.tLast := by
  unfold State.drawRead; split <;> rfl

@[simp] theorem State.drawRead_waitBtn (s : State) (p : PinId) : (s.drawRead p).2.waitBtn = s.waitBtn := by
  unfold State.drawRead; split <;> rfl

@[simp] theorem State.drawRead_result (s : State) (p : PinId) : (s.drawRead p).2.result = s.result := by
  unfold State.drawRead; split <;> rfl

@[simp] theorem State.drawRead_lcd (s : State) (p : PinId) : (s.drawRead p).2.lcd = s.lcd := by
  unfold State.drawRead; split <;> rfl

@[simp] theorem State.drawRead_misreads (s : State) (p : PinId) : (s.drawRead p).2.misreads = s.misreads := by
  unfold State.drawRead; split <;> rfl

@[simp] theorem State.drawRead_hostOps (s : State) (p : PinId) : (s.drawRead p).2.hostOps = s.hostOps := by
  unfold State.drawRead; split <;> rfl

@[simp] theorem State.drawRead_hostLines (s : State) (p : PinId) : (s.drawRead p).2.hostLines = s.hostLines := by
  unfold State.drawRead; split <;> rfl

@[simp] theorem State.drawRead_millisInputs (s : State) (p : PinId) : (s.drawRead p).2.millisInputs = s.millisInputs :=
  by
  unfold State.drawRead; split <;> rfl

/-! ### State.drawMillis -/

@[simp] theorem State.drawMillis_cfg (s : State) : s.drawMillis.2.cfg = s.cfg := by
  unfold State.drawMillis; split <;> rfl

@[simp] theorem State.drawMillis_phase (s : State) : s.drawMillis.2.phase = s.phase := by
  unfold State.drawMillis; split <;> rfl

@[simp] theorem State.drawMillis_fault (s : State) : s.drawMillis.2.fault = s.fault := by
  unfold State.drawMillis; split <;> rfl

@[simp] theorem State.drawMillis_busMode (s : State) : s.drawMillis.2.busMode = s.busMode := by
  unfold State.drawMillis; split <;> rfl

@[simp] theorem State.drawMillis_displayfunction (s : State) : s.drawMillis.2.displayfunction = s.displayfunction :=
  by
  unfold State.drawMillis; split <;> rfl

@[simp] theorem State.drawMillis_displaycontrol (s : State) : s.drawMillis.2.displaycontrol = s.displaycontrol := by
  unfold State.drawMillis; split <;> rfl

@[simp] theorem State.drawMillis_displaymode (s : State) : s.drawMillis.2.displaymode = s.displaymode := by
  unfold State.drawMillis; split <;> rfl

@[simp] theorem State.drawMillis_rowOffsets (s : State) : s.drawMillis.2.rowOffsets = s.rowOffsets := by
  unfold State.drawMillis; split <;> rfl

@[simp] theorem State.drawMillis_numlines (s : State) : s.drawMillis.2.numlines = s.numlines := by
  unfold State.drawMillis; split <;> rfl

@[simp] theorem State.drawMillis_btn (s : State) : s.drawMillis.2.btn = s.btn := by
  unfold State.drawMillis; split <;> rfl

@[simp] theorem State.drawMillis_tLast (s : State) : s.drawMillis.2.tLast = s.tLast := by
  unfold State.drawMillis; split <;> rfl

@[simp] theorem State.drawMillis_waitBtn (s : State) : s.drawMillis.2.waitBtn = s.waitBtn := by
  unfold State.drawMillis; split <;> rfl

@[simp] theorem State.drawMillis_result (s : State) : s.drawMillis.2.result = s.result := by
  unfold State.drawMillis; split <;> rfl

@[simp] theorem State.drawMillis_lcd (s : State) : s.drawMillis.2.lcd = s.lcd := by
  unfold State.drawMillis; split <;> rfl

@[simp] theorem State.drawMillis_misreads (s : State) : s.drawMillis.2.misreads = s.misreads := by
  unfold State.drawMillis; split <;> rfl

@[simp] theorem State.drawMillis_hostOps (s : State) : s.drawMillis.2.hostOps = s.hostOps := by
  unfold State.drawMillis; split <;> rfl

@[simp] theorem State.drawMillis_hostLines (s : State) : s.drawMillis.2.hostLines = s.hostLines := by
  unfold State.drawMillis; split <;> rfl

@[simp] theorem State.drawMillis_readInputs (s : State) : s.drawMillis.2.readInputs = s.readInputs := by
  unfold State.drawMillis; split <;> rfl

/-! ### State.finishWait -/

@[simp] theorem State.finishWait_cfg (s : State) (b : Fin 5) : (s.finishWait b).cfg = s.cfg := by
  unfold State.finishWait; split <;> rfl

@[simp] theorem State.finishWait_phase (s : State) (b : Fin 5) : (s.finishWait b).phase = s.phase := by
  unfold State.finishWait; split <;> rfl

@[simp] theorem State.finishWait_fault (s : State) (b : Fin 5) : (s.finishWait b).fault = s.fault := by
  unfold State.finishWait; split <;> rfl

@[simp] theorem State.finishWait_busMode (s : State) (b : Fin 5) : (s.finishWait b).busMode = s.busMode := by
  unfold State.finishWait; split <;> rfl

@[simp] theorem State.finishWait_displayfunction (s : State) (b : Fin 5) : (s.finishWait b).displayfunction = s.displayfunction :=
  by
  unfold State.finishWait; split <;> rfl

@[simp] theorem State.finishWait_displaycontrol (s : State) (b : Fin 5) : (s.finishWait b).displaycontrol = s.displaycontrol :=
  by
  unfold State.finishWait; split <;> rfl

@[simp] theorem State.finishWait_displaymode (s : State) (b : Fin 5) : (s.finishWait b).displaymode = s.displaymode :=
  by
  unfold State.finishWait; split <;> rfl

@[simp] theorem State.finishWait_rowOffsets (s : State) (b : Fin 5) : (s.finishWait b).rowOffsets = s.rowOffsets := by
  unfold State.finishWait; split <;> rfl

@[simp] theorem State.finishWait_numlines (s : State) (b : Fin 5) : (s.finishWait b).numlines = s.numlines := by
  unfold State.finishWait; split <;> rfl

@[simp] theorem State.finishWait_tLast (s : State) (b : Fin 5) : (s.finishWait b).tLast = s.tLast := by
  unfold State.finishWait; split <;> rfl

@[simp] theorem State.finishWait_waitBtn (s : State) (b : Fin 5) : (s.finishWait b).waitBtn = s.waitBtn := by
  unfold State.finishWait; split <;> rfl

@[simp] theorem State.finishWait_pins (s : State) (b : Fin 5) : (s.finishWait b).pins = s.pins := by
  unfold State.finishWait; split <;> rfl

@[simp] theorem State.finishWait_trace (s : State) (b : Fin 5) : (s.finishWait b).trace = s.trace := by
  unfold State.finishWait; split <;> rfl

@[simp] theorem State.finishWait_result (s : State) (b : Fin 5) : (s.finishWait b).result = s.result := by
  unfold State.finishWait; split <;> rfl

@[simp] theorem State.finishWait_wire (s : State) (b : Fin 5) : (s.finishWait b).wire = s.wire := by
  unfold State.finishWait; split <;> rfl

@[simp] theorem State.finishWait_lcd (s : State) (b : Fin 5) : (s.finishWait b).lcd = s.lcd := by
  unfold State.finishWait; split <;> rfl

@[simp] theorem State.finishWait_misreads (s : State) (b : Fin 5) : (s.finishWait b).misreads = s.misreads := by
  unfold State.finishWait; split <;> rfl

@[simp] theorem State.finishWait_hostOps (s : State) (b : Fin 5) : (s.finishWait b).hostOps = s.hostOps := by
  unfold State.finishWait; split <;> rfl

@[simp] theorem State.finishWait_hostLines (s : State) (b : Fin 5) : (s.finishWait b).hostLines = s.hostLines := by
  unfold State.finishWait; split <;> rfl

@[simp] theorem State.finishWait_readInputs (s : State) (b : Fin 5) : (s.finishWait b).readInputs = s.readInputs := by
  unfold State.finishWait; split <;> rfl

@[simp] theorem State.finishWait_millisInputs (s : State) (b : Fin 5) : (s.finishWait b).millisInputs = s.millisInputs :=
  by
  unfold State.finishWait; split <;> rfl

/-! ### State.tickButton -/

@[simp] theorem State.tickButton_cfg (s : State) (b : Fin 5) : (s.tickButton b).cfg = s.cfg := by
  simp [State.tickButton]

@[simp] theorem State.tickButton_phase (s : State) (b : Fin 5) : (s.tickButton b).phase = s.phase := by
  simp [State.tickButton]

@[simp] theorem State.tickButton_fault (s : State) (b : Fin 5) : (s.tickButton b).fault = s.fault := by
  simp [State.tickButton]

@[simp] theorem State.tickButton_busMode (s : State) (b : Fin 5) : (s.tickButton b).busMode = s.busMode := by
  simp [State.tickButton]

@[simp] theorem State.tickButton_displayfunction (s : State) (b : Fin 5) : (s.tickButton b).displayfunction = s.displayfunction :=
  by
  simp [State.tickButton]

@[simp] theorem State.tickButton_displaycontrol (s : State) (b : Fin 5) : (s.tickButton b).displaycontrol = s.displaycontrol :=
  by
  simp [State.tickButton]

@[simp] theorem State.tickButton_displaymode (s : State) (b : Fin 5) : (s.tickButton b).displaymode = s.displaymode :=
  by
  simp [State.tickButton]

@[simp] theorem State.tickButton_rowOffsets (s : State) (b : Fin 5) : (s.tickButton b).rowOffsets = s.rowOffsets := by
  simp [State.tickButton]

@[simp] theorem State.tickButton_numlines (s : State) (b : Fin 5) : (s.tickButton b).numlines = s.numlines := by
  simp [State.tickButton]

@[simp] theorem State.tickButton_tLast (s : State) (b : Fin 5) : (s.tickButton b).tLast = s.tLast := by
  simp [State.tickButton]

@[simp] theorem State.tickButton_waitBtn (s : State) (b : Fin 5) : (s.tickButton b).waitBtn = s.waitBtn := by
  simp [State.tickButton]

@[simp] theorem State.tickButton_result (s : State) (b : Fin 5) : (s.tickButton b).result = s.result := by
  simp [State.tickButton]

@[simp] theorem State.tickButton_lcd (s : State) (b : Fin 5) : (s.tickButton b).lcd = s.lcd := by
  simp [State.tickButton]

@[simp] theorem State.tickButton_misreads (s : State) (b : Fin 5) : (s.tickButton b).misreads = s.misreads := by
  simp [State.tickButton]

@[simp] theorem State.tickButton_hostOps (s : State) (b : Fin 5) : (s.tickButton b).hostOps = s.hostOps := by
  simp [State.tickButton]

@[simp] theorem State.tickButton_hostLines (s : State) (b : Fin 5) : (s.tickButton b).hostLines = s.hostLines := by
  simp [State.tickButton]

@[simp] theorem State.tickButton_millisInputs (s : State) (b : Fin 5) : (s.tickButton b).millisInputs = s.millisInputs :=
  by
  simp [State.tickButton]

/-! ### State.tick -/

@[simp] theorem State.tick_cfg (s : State) : s.tick.cfg = s.cfg := by
  simp [State.tick]

@[simp] theorem State.tick_phase (s : State) : s.tick.phase = s.phase := by
  simp [State.tick]

@[simp] theorem State.tick_fault (s : State) : s.tick.fault = s.fault := by
  simp [State.tick]

@[simp] theorem State.tick_busMode (s : State) : s.tick.busMode = s.busMode := by
  simp [State.tick]

@[simp] theorem State.tick_displayfunction (s : State) : s.tick.displayfunction = s.displayfunction := by
  simp [State.tick]

@[simp] theorem State.tick_displaycontrol (s : State) : s.tick.displaycontrol = s.displaycontrol := by
  simp [State.tick]

@[simp] theorem State.tick_displaymode (s : State) : s.tick.displaymode = s.displaymode := by
  simp [State.tick]

@[simp] theorem State.tick_rowOffsets (s : State) : s.tick.rowOffsets = s.rowOffsets := by
  simp [State.tick]

@[simp] theorem State.tick_numlines (s : State) : s.tick.numlines = s.numlines := by
  simp [State.tick]

@[simp] theorem State.tick_tLast (s : State) : s.tick.tLast = s.tLast := by
  simp [State.tick]

@[simp] theorem State.tick_waitBtn (s : State) : s.tick.waitBtn = s.waitBtn := by
  simp [State.tick]

@[simp] theorem State.tick_result (s : State) : s.tick.result = s.result := by
  simp [State.tick]

@[simp] theorem State.tick_lcd (s : State) : s.tick.lcd = s.lcd := by
  simp [State.tick]

@[simp] theorem State.tick_misreads (s : State) : s.tick.misreads = s.misreads := by
  simp [State.tick]

@[simp] theorem State.tick_hostOps (s : State) : s.tick.hostOps = s.hostOps := by
  simp [State.tick]

@[simp] theorem State.tick_hostLines (s : State) : s.tick.hostLines = s.hostLines := by
  simp [State.tick]

@[simp] theorem State.tick_millisInputs (s : State) : s.tick.millisInputs = s.millisInputs := by
  simp [State.tick]

/-! ### State.sample -/

@[simp] theorem State.sample_cfg (s : State) : s.sample.cfg = s.cfg := by
  unfold State.sample
  split
  · simp
  · dsimp only; split <;> simp

@[simp] theorem State.sample_phase (s : State) : s.sample.phase = s.phase := by
  unfold State.sample
  split
  · simp
  · dsimp only; split <;> simp

@[simp] theorem State.sample_busMode (s : State) : s.sample.busMode = s.busMode := by
  unfold State.sample
  split
  · simp
  · dsimp only; split <;> simp

@[simp] theorem State.sample_displayfunction (s : State) : s.sample.displayfunction = s.displayfunction := by
  unfold State.sample
  split
  · simp
  · dsimp only; split <;> simp

@[simp] theorem State.sample_displaycontrol (s : State) : s.sample.displaycontrol = s.displaycontrol := by
  unfold State.sample
  split
  · simp
  · dsimp only; split <;> simp

@[simp] theorem State.sample_displaymode (s : State) : s.sample.displaymode = s.displaymode := by
  unfold State.sample
  split
  · simp
  · dsimp only; split <;> simp

@[simp] theorem State.sample_rowOffsets (s : State) : s.sample.rowOffsets = s.rowOffsets := by
  unfold State.sample
  split
  · simp
  · dsimp only; split <;> simp

@[simp] theorem State.sample_numlines (s : State) : s.sample.numlines = s.numlines := by
  unfold State.sample
  split
  · simp
  · dsimp only; split <;> simp

@[simp] theorem State.sample_waitBtn (s : State) : s.sample.waitBtn = s.waitBtn := by
  unfold State.sample
  split
  · simp
  · dsimp only; split <;> simp

@[simp] theorem State.sample_result (s : State) : s.sample.result = s.result := by
  unfold State.sample
  split
  · simp
  · dsimp only; split <;> simp

@[simp] theorem State.sample_lcd (s : State) : s.sample.lcd = s.lcd := by
  unfold State.sample
  split
  · simp
  · dsimp only; split <;> simp

@[simp] theorem State.sample_misreads (s : State) : s.sample.misreads = s.misreads := by
  unfold State.sample
  split
  · simp
  · dsimp only; split <;> simp

@[simp] theorem State.sample_hostOps (s : State) : s.sample.hostOps = s.hostOps := by
  unfold State.sample
  split
  · simp
  · dsimp only; split <;> simp

@[simp] theorem State.sample_hostLines (s : State) : s.sample.hostLines = s.hostLines := by
  unfold State.sample
  split
  · simp
  · dsimp only; split <;> simp

/-! ### State.uploadGlyph -/

@[simp] theorem State.uploadGlyph_cfg (s : State) (k : Fin 8) : (s.uploadGlyph k).cfg = s.cfg := by
  simp [State.uploadGlyph]

@[simp] theorem State.uploadGlyph_phase (s : State) (k : Fin 8) : (s.uploadGlyph k).phase = s.phase := by
  simp [State.uploadGlyph]

@[simp] theorem State.uploadGlyph_fault (s : State) (k : Fin 8) : (s.uploadGlyph k).fault = s.fault := by
  simp [State.uploadGlyph]

@[simp] theorem State.uploadGlyph_displayfunction (s : State) (k : Fin 8) : (s.uploadGlyph k).displayfunction = s.displayfunction :=
  by
  simp [State.uploadGlyph]

@[simp] theorem State.uploadGlyph_displaycontrol (s : State) (k : Fin 8) : (s.uploadGlyph k).displaycontrol = s.displaycontrol :=
  by
  simp [State.uploadGlyph]

@[simp] theorem State.uploadGlyph_displaymode (s : State) (k : Fin 8) : (s.uploadGlyph k).displaymode = s.displaymode :=
  by
  simp [State.uploadGlyph]

@[simp] theorem State.uploadGlyph_rowOffsets (s : State) (k : Fin 8) : (s.uploadGlyph k).rowOffsets = s.rowOffsets :=
  by
  simp [State.uploadGlyph]

@[simp] theorem State.uploadGlyph_numlines (s : State) (k : Fin 8) : (s.uploadGlyph k).numlines = s.numlines := by
  simp [State.uploadGlyph]

@[simp] theorem State.uploadGlyph_btn (s : State) (k : Fin 8) : (s.uploadGlyph k).btn = s.btn := by
  simp [State.uploadGlyph]

@[simp] theorem State.uploadGlyph_tLast (s : State) (k : Fin 8) : (s.uploadGlyph k).tLast = s.tLast := by
  simp [State.uploadGlyph]

@[simp] theorem State.uploadGlyph_waitBtn (s : State) (k : Fin 8) : (s.uploadGlyph k).waitBtn = s.waitBtn := by
  simp [State.uploadGlyph]

@[simp] theorem State.uploadGlyph_result (s : State) (k : Fin 8) : (s.uploadGlyph k).result = s.result := by
  simp [State.uploadGlyph]

@[simp] theorem State.uploadGlyph_lcd (s : State) (k : Fin 8) : (s.uploadGlyph k).lcd = s.lcd := by
  simp [State.uploadGlyph]

@[simp] theorem State.uploadGlyph_misreads (s : State) (k : Fin 8) : (s.uploadGlyph k).misreads = s.misreads := by
  simp [State.uploadGlyph]

@[simp] theorem State.uploadGlyph_hostOps (s : State) (k : Fin 8) : (s.uploadGlyph k).hostOps = s.hostOps := by
  simp [State.uploadGlyph]

@[simp] theorem State.uploadGlyph_hostLines (s : State) (k : Fin 8) : (s.uploadGlyph k).hostLines = s.hostLines := by
  simp [State.uploadGlyph]

@[simp] theorem State.uploadGlyph_readInputs (s : State) (k : Fin 8) : (s.uploadGlyph k).readInputs = s.readInputs :=
  by
  simp [State.uploadGlyph]

@[simp] theorem State.uploadGlyph_millisInputs (s : State) (k : Fin 8) : (s.uploadGlyph k).millisInputs = s.millisInputs :=
  by
  simp [State.uploadGlyph]

@[simp] theorem State.uploadGlyph_busMode (s : State) (k : Fin 8) : (s.uploadGlyph k).busMode = .input := rfl

/-! ### State.beginHandshake -/

@[simp] theorem State.beginHandshake_cfg (s : State) : s.beginHandshake.cfg = s.cfg := by
  simp [State.beginHandshake]

@[simp] theorem State.beginHandshake_phase (s : State) : s.beginHandshake.phase = s.phase := by
  simp [State.beginHandshake]

@[simp] theorem State.beginHandshake_fault (s : State) : s.beginHandshake.fault = s.fault := by
  simp [State.beginHandshake]

@[simp] theorem State.beginHandshake_displayfunction (s : State) : s.beginHandshake.displayfunction = s.displayfunction :=
  by
  simp [State.beginHandshake]

@[simp] theorem State.beginHandshake_displaycontrol (s : State) : s.beginHandshake.displaycontrol = s.displaycontrol :=
  by
  simp [State.beginHandshake]

@[simp] theorem State.beginHandshake_displaymode (s : State) : s.beginHandshake.displaymode = s.displaymode := by
  simp [State.beginHandshake]

@[simp] theorem State.beginHandshake_rowOffsets (s : State) : s.beginHandshake.rowOffsets = s.rowOffsets := by
  simp [State.beginHandshake]

@[simp] theorem State.beginHandshake_numlines (s : State) : s.beginHandshake.numlines = s.numlines := by
  simp [State.beginHandshake]

@[simp] theorem State.beginHandshake_btn (s : State) : s.beginHandshake.btn = s.btn := by
  simp [State.beginHandshake]

@[simp] theorem State.beginHandshake_tLast (s : State) : s.beginHandshake.tLast = s.tLast := by
  simp [State.beginHandshake]

@[simp] theorem State.beginHandshake_waitBtn (s : State) : s.beginHandshake.waitBtn = s.waitBtn := by
  simp [State.beginHandshake]

@[simp] theorem State.beginHandshake_result (s : State) : s.beginHandshake.result = s.result := by
  simp [State.beginHandshake]

@[simp] theorem State.beginHandshake_lcd (s : State) : s.beginHandshake.lcd = s.lcd := by
  simp [State.beginHandshake]

@[simp] theorem State.beginHandshake_misreads (s : State) : s.beginHandshake.misreads = s.misreads := by
  simp [State.beginHandshake]

@[simp] theorem State.beginHandshake_hostOps (s : State) : s.beginHandshake.hostOps = s.hostOps := by
  simp [State.beginHandshake]

@[simp] theorem State.beginHandshake_hostLines (s : State) : s.beginHandshake.hostLines = s.hostLines := by
  simp [State.beginHandshake]

@[simp] theorem State.beginHandshake_readInputs (s : State) : s.beginHandshake.readInputs = s.readInputs := by
  simp [State.beginHandshake]

@[simp] theorem State.beginHandshake_millisInputs (s : State) : s.beginHandshake.millisInputs = s.millisInputs := by
  simp [State.beginHandshake]

@[simp] theorem State.beginHandshake_busMode (s : State) : s.beginHandshake.busMode = .input := rfl

/-! ### State.beginGlyphs -/

@[simp] theorem State.beginGlyphs_cfg (s : State) : s.beginGlyphs.cfg = s.cfg := by
  simp [State.beginGlyphs]

@[simp] theorem State.beginGlyphs_phase (s : State) : s.beginGlyphs.phase = s.phase := by
  simp [State.beginGlyphs]

@[simp] theorem State.beginGlyphs_fault (s : State) : s.beginGlyphs.fault = s.fault := by
  simp [State.beginGlyphs]

@[simp] theorem State.beginGlyphs_displayfunction (s : State) : s.beginGlyphs.displayfunction = s.displayfunction :=
  by
  simp [State.beginGlyphs]

@[simp] theorem State.beginGlyphs_displaycontrol (s : State) : s.beginGlyphs.displaycontrol = s.displaycontrol := by
  simp [State.beginGlyphs]

@[simp] theorem State.beginGlyphs_displaymode (s : State) : s.beginGlyphs.displaymode = s.displaymode := by
  simp [State.beginGlyphs]

@[simp] theorem State.beginGlyphs_rowOffsets (s : State) : s.beginGlyphs.rowOffsets = s.rowOffsets := by
  simp [State.beginGlyphs]

@[simp] theorem State.beginGlyphs_numlines (s : State) : s.beginGlyphs.numlines = s.numlines := by
  simp [State.beginGlyphs]

@[simp] theorem State.beginGlyphs_btn (s : State) : s.beginGlyphs.btn = s.btn := by
  simp [State.beginGlyphs]

@[simp] theorem State.beginGlyphs_tLast (s : State) : s.beginGlyphs.tLast = s.tLast := by
  simp [State.beginGlyphs]

@[simp] theorem State.beginGlyphs_waitBtn (s : State) : s.beginGlyphs.waitBtn = s.waitBtn := by
  simp [State.beginGlyphs]

@[simp] theorem State.beginGlyphs_result (s : State) : s.beginGlyphs.result = s.result := by
  simp [State.beginGlyphs]

@[simp] theorem State.beginGlyphs_lcd (s : State) : s.beginGlyphs.lcd = s.lcd := by
  simp [State.beginGlyphs]

@[simp] theorem State.beginGlyphs_misreads (s : State) : s.beginGlyphs.misreads = s.misreads := by
  simp [State.beginGlyphs]

@[simp] theorem State.beginGlyphs_hostOps (s : State) : s.beginGlyphs.hostOps = s.hostOps := by
  simp [State.beginGlyphs]

@[simp] theorem State.beginGlyphs_hostLines (s : State) : s.beginGlyphs.hostLines = s.hostLines := by
  simp [State.beginGlyphs]

@[simp] theorem State.beginGlyphs_readInputs (s : State) : s.beginGlyphs.readInputs = s.readInputs := by
  simp [State.beginGlyphs]

@[simp] theorem State.beginGlyphs_millisInputs (s : State) : s.beginGlyphs.millisInputs = s.millisInputs := by
  simp [State.beginGlyphs]

@[simp] theorem State.beginGlyphs_busMode (s : State) : s.beginGlyphs.busMode = .input := rfl

/-! ### State.beginDisplay -/

@[simp] theorem State.beginDisplay_cfg (s : State) : s.beginDisplay.cfg = s.cfg := by
  simp [State.beginDisplay]

@[simp] theorem State.beginDisplay_phase (s : State) : s.beginDisplay.phase = s.phase := by
  simp [State.beginDisplay]

@[simp] theorem State.beginDisplay_fault (s : State) : s.beginDisplay.fault = s.fault := by
  simp [State.beginDisplay]

@[simp] theorem State.beginDisplay_displayfunction (s : State) : s.beginDisplay.displayfunction = s.displayfunction :=
  by
  simp [State.beginDisplay]

@[simp] theorem State.beginDisplay_rowOffsets (s : State) : s.beginDisplay.rowOffsets = s.rowOffsets := by
  simp [State.beginDisplay]

@[simp] theorem State.beginDisplay_numlines (s : State) : s.beginDisplay.numlines = s.numlines := by
  simp [State.beginDisplay]

@[simp] theorem State.beginDisplay_btn (s : State) : s.beginDisplay.btn = s.btn := by
  simp [State.beginDisplay]

@[simp] theorem State.beginDisplay_tLast (s : State) : s.beginDisplay.tLast = s.tLast := by
  simp [State.beginDisplay]

@[simp] theorem State.beginDisplay_waitBtn (s : State) : s.beginDisplay.waitBtn = s.waitBtn := by
  simp [State.beginDisplay]

@[simp] theorem State.beginDisplay_result (s : State) : s.beginDisplay.result = s.result := by
  simp [State.beginDisplay]

@[simp] theorem State.beginDisplay_lcd (s : State) : s.beginDisplay.lcd = s.lcd := by
  simp [State.beginDisplay]

@[simp] theorem State.beginDisplay_misreads (s : State) : s.beginDisplay.misreads = s.misreads := by
  simp [State.beginDisplay]

@[simp] theorem State.beginDisplay_hostOps (s : State) : s.beginDisplay.hostOps = s.hostOps := by
  simp [State.beginDisplay]

@[simp] theorem State.beginDisplay_hostLines (s : State) : s.beginDisplay.hostLines = s.hostLines := by
  simp [State.beginDisplay]

@[simp] theorem State.beginDisplay_readInputs (s : State) : s.beginDisplay.readInputs = s.readInputs := by
  simp [State.beginDisplay]

@[simp] theorem State.beginDisplay_millisInputs (s : State) : s.beginDisplay.millisInputs = s.millisInputs := by
  simp [State.beginDisplay]

@[simp] theorem State.beginDisplay_busMode (s : State) : s.beginDisplay.busMode = .input := rfl

@[simp] theorem State.beginDisplay_displaycontrol (s : State) : s.beginDisplay.displaycontrol = FLAG_D := by
  simp [State.beginDisplay]

@[simp] theorem State.beginDisplay_displaymode (s : State) : s.beginDisplay.displaymode = FLAG_ID := by
  simp [State.beginDisplay]

/-! ### State.beginBody -/

@[simp] theorem State.beginBody_cfg (s : State) (columns lines fontSize : Byte) : (s.beginBody columns lines fontSize).cfg = s.cfg :=
  by
  simp [State.beginBody]

@[simp] theorem State.beginBody_phase (s : State) (columns lines fontSize : Byte) : (s.beginBody columns lines fontSize).phase = .ready :=
  by
  simp [State.beginBody]

@[simp] theorem State.beginBody_fault (s : State) (columns lines fontSize : Byte) : (s.beginBody columns lines fontSize).fault = s.fault :=
  by
  simp [State.beginBody]

@[simp] theorem State.beginBody_busMode (s : State) (columns lines fontSize : Byte) : (s.beginBody columns lines fontSize).busMode = .input :=
  by
  simp [State.beginBody]

@[simp] theorem State.beginBody_displayfunction (s : State) (columns lines fontSize : Byte) : (s.beginBody columns lines fontSize).displayfunction = functionFlags lines fontSize :=
  by
  simp [State.beginBody]

@[simp] theorem State.beginBody_displaycontrol (s : State) (columns lines fontSize : Byte) : (s.beginBody columns lines fontSize).displaycontrol = FLAG_D :=
  by
  simp [State.beginBody]

@[simp] theorem State.beginBody_displaymode (s : State) (columns lines fontSize : Byte) : (s.beginBody columns lines fontSize).displaymode = FLAG_ID :=
  by
  simp [State.beginBody]

@[simp] theorem State.beginBody_rowOffsets (s : State) (columns lines fontSize : Byte) : (s.beginBody columns lines fontSize).rowOffsets = defaultRowOffsets columns :=
  by
  simp [State.beginBody]

@[simp] theorem State.beginBody_numlines (s : State) (columns lines fontSize : Byte) : (s.beginBody columns lines fontSize).numlines = lines :=
  by
  simp [State.beginBody]

@[simp] theorem State.beginBody_btn (s : State) (columns lines fontSize : Byte) : (s.beginBody columns lines fontSize).btn = s.btn :=
  by
  simp [State.beginBody]

@[simp] theorem State.beginBody_tLast (s : State) (columns lines fontSize : Byte) : (s.beginBody columns lines fontSize).tLast = s.tLast :=
  by
  simp [State.beginBody]

@[simp] theorem State.beginBody_waitBtn (s : State) (columns lines fontSize : Byte) : (s.beginBody columns lines fontSize).waitBtn = s.waitBtn :=
  by
  simp [State.beginBody]

@[simp] theorem State.beginBody_result (s : State) (columns lines fontSize : Byte) : (s.beginBody columns lines fontSize).result = s.result :=
  by
  simp [State.beginBody]

@[simp] theorem State.beginBody_lcd (s : State) (columns lines fontSize : Byte) : (s.beginBody columns lines fontSize).lcd = s.lcd :=
  by
  simp [State.beginBody]

@[simp] theorem State.beginBody_misreads (s : State) (columns lines fontSize : Byte) : (s.beginBody columns lines fontSize).misreads = s.misreads :=
  by
  simp [State.beginBody]

@[simp] theorem State.beginBody_hostOps (s : State) (columns lines fontSize : Byte) : (s.beginBody columns lines fontSize).hostOps = s.hostOps :=
  by
  simp [State.beginBody]

@[simp] theorem State.beginBody_hostLines (s : State) (columns lines fontSize : Byte) : (s.beginBody columns lines fontSize).hostLines = s.hostLines :=
  by
  simp [State.beginBody]

@[simp] theorem State.beginBody_readInputs (s : State) (columns lines fontSize : Byte) : (s.beginBody columns lines fontSize).readInputs = s.readInputs :=
  by
  simp [State.beginBody]

@[simp] theorem State.beginBody_millisInputs (s : State) (columns lines fontSize : Byte) : (s.beginBody columns lines fontSize).millisInputs = s.millisInputs :=
  by
  simp [State.beginBody]

/-! ### State.misread -/

@[simp] theorem State.misread_cfg (s : State) : s.misread.cfg = s.cfg := rfl

@[simp] theorem State.misread_phase (s : State) : s.misread.phase = s.phase := rfl

@[simp] theorem State.misread_fault (s : State) : s.misread.fault = s.fault := rfl

@[simp] theorem State.misread_busMode (s : State) : s.misread.busMode = s.busMode := rfl

@[simp] theorem State.misread_displayfunction (s : State) : s.misread.displayfunction = s.displayfunction := rfl

@[simp] theorem State.misread_displaycontrol (s : State) : s.misread.displaycontrol = s.displaycontrol := rfl

@[simp] theorem State.misread_displaymode (s : State) : s.misread.displaymode = s.displaymode := rfl

@[simp] theorem State.misread_rowOffsets (s : State) : s.misread.rowOffsets = s.rowOffsets := rfl

@[simp] theorem State.misread_numlines (s : State) : s.misread.numlines = s.numlines := rfl

@[simp] theorem State.misread_btn (s : State) : s.misread.btn = s.btn := rfl

@[simp] theorem State.misread_tLast (s : State) : s.misread.tLast = s.tLast := rfl

@[simp] theorem State.misread_waitBtn (s : State) : s.misread.waitBtn = s.waitBtn := rfl

@[simp] theorem State.misread_pins (s : State) : s.misread.pins = s.pins := rfl

@[simp] theorem State.misread_trace (s : State) : s.misread.trace = s.trace := rfl

@[simp] theorem State.misread_result (s : State) : s.misread.result = s.result := rfl

@[simp] theorem State.misread_wire (s : State) : s.misread.wire = s.wire := rfl

@[simp] theorem State.misread_hostOps (s : State) : s.misread.hostOps = s.hostOps := rfl

@[simp] theorem State.misread_hostLines (s : State) : s.misread.hostLines = s.hostLines := rfl

@[simp] theorem State.misread_readInputs (s : State) : s.misread.readInputs = s.readInputs := rfl

@[simp] theorem State.misread_millisInputs (s : State) : s.misread.millisInputs = s.millisInputs := rfl

@[simp] theorem State.misread_misreads (s : State) : s.misread.misreads = s.misreads + 1 := rfl

@[simp] theorem State.misread_lcd (s : State) : s.misread.lcd = Lcd.ofFree (Config.controllerAfterMisread s.misreads) := rfl

end Sys2Proof.Machine
end

