-- ==== Sys2Proof/Laws/Ops.lean ====
section
/-! SUPPORT. What the shared operations do: keyed lists and memories, events, pins and the wire, the checks before an
operation, draws, buttons. Later proofs cite these and do not unfold the operations. -/

namespace Sys2Proof.Machine

open Sys2Proof

/-! ### Keyed lists -/

section KeyedLists

variable {α : Type}

@[simp] theorem assocGet_assocSet_same (k : Nat) (v : α) (m : List (Nat × α)) :
    assocGet k (assocSet k v m) = some v := by
  induction m with
  | nil => simp [assocSet, assocGet]
  | cons c t ih =>
    obtain ⟨k', v'⟩ := c
    simp only [assocSet]
    split
    · simp [assocGet]
    · split
      · simp [assocGet]
      · rename_i h
        simp [assocGet, h, ih]

theorem assocGet_assocSet_other {j k : Nat} (h : j ≠ k) (v : α) (m : List (Nat × α)) :
    assocGet j (assocSet k v m) = assocGet j m := by
  induction m with
  | nil => simp [assocSet, assocGet, h]
  | cons c t ih =>
    obtain ⟨k', v'⟩ := c
    simp only [assocSet]
    split
    · simp [assocGet, h]
    · split
      · rename_i hk
        subst hk
        simp [assocGet, h]
      · simp [assocGet, ih]

theorem all_assocSet (q : Nat × α → Bool) (k : Nat) (v : α) (m : List (Nat × α)) (hm : m.all q = true)
    (hv : q (k, v) = true) : (assocSet k v m).all q = true := by
  induction m with
  | nil => simp [assocSet, hv]
  | cons c t ih =>
    obtain ⟨k', v'⟩ := c
    simp only [List.all_cons, Bool.and_eq_true] at hm
    simp only [assocSet]
    split
    · simp [hv, hm.1, hm.2]
    · split
      · simp [hv, hm.2]
      · simp [hm.1, ih hm.2]

theorem rising_assocSet (k : Nat) (v : α) (m : List (Nat × α)) (hm : rising m = true) :
    rising (assocSet k v m) = true := by
  induction m with
  | nil => rfl
  | cons c t ih =>
    obtain ⟨k', v'⟩ := c
    simp only [rising, Bool.and_eq_true] at hm
    simp only [assocSet]
    split
    · rename_i hlt
      simp only [rising, Bool.and_eq_true, List.all_cons, decide_eq_true_eq]
      refine ⟨⟨hlt, ?_⟩, hm⟩
      refine List.all_eq_true.2 fun x hx => ?_
      have := List.all_eq_true.1 hm.1 x hx
      simp only [decide_eq_true_eq] at this ⊢
      omega
    · split
      · rename_i heq
        subst heq
        simpa [rising] using hm
      · rename_i h1 h2
        simp only [rising, Bool.and_eq_true]
        refine ⟨all_assocSet _ k v t hm.1 ?_, ih hm.2⟩
        simp only [decide_eq_true_eq]
        omega

end KeyedLists

/-! ### The controller's memories -/

@[simp] theorem Memory.read_write_same (m : Memory) (a : Nat) (v : Byte) : (m.write a v).read a = some v :=
  assocGet_assocSet_same a v m

theorem Memory.read_write_other {a b : Nat} (h : b ≠ a) (m : Memory) (v : Byte) : (m.write a v).read b = m.read b :=
  assocGet_assocSet_other h v m

/-- A write inside the memory keeps its canonical form. -/
theorem Memory.wf_write {size a : Nat} {m : Memory} (hm : m.wf size = true) (ha : a < size) (v : Byte) :
    (m.write a v).wf size = true := by
  simp only [Memory.wf, Bool.and_eq_true] at hm ⊢
  exact ⟨rising_assocSet a v m hm.1, all_assocSet _ a v m hm.2 (by simpa using ha)⟩

@[simp] theorem Memory.wf_nil (size : Nat) : Memory.wf size [] = true := rfl

theorem rising_of_pairwise {α : Type} (m : List (Nat × α)) (h : m.Pairwise (fun c d => c.1 < d.1)) : rising m = true := by
  induction m with
  | nil => rfl
  | cons c t ih =>
    rw [List.pairwise_cons] at h
    simp only [rising, Bool.and_eq_true, List.all_eq_true, decide_eq_true_eq]
    exact ⟨fun x hx => h.1 x hx, ih h.2⟩

/-- Filling the whole memory gives the canonical form. -/
theorem Memory.wf_fill (size : Nat) (v : Byte) : (Memory.fill size v).wf size = true := by
  simp only [Memory.wf, Bool.and_eq_true]
  refine ⟨rising_of_pairwise _ ?_, ?_⟩
  · simp only [Memory.fill, List.pairwise_map]
    exact List.pairwise_lt_range
  · simp [Memory.fill]

theorem assocGet_map_pair (ks : List Nat) (v : Byte) (a : Nat) :
    assocGet a (ks.map (fun k => (k, v))) = if a ∈ ks then some v else none := by
  induction ks with
  | nil => rfl
  | cons k t ih =>
    simp only [List.map_cons, assocGet, List.mem_cons]
    by_cases h : a = k <;> simp [h, ih]

theorem Memory.read_fill (size a : Nat) (v : Byte) :
    (Memory.fill size v).read a = if a < size then some v else none := by
  simp only [Memory.read, Memory.fill, assocGet_map_pair, List.mem_range]

/-- A memory made of what is told of each address has the canonical form. -/
theorem Memory.wf_ofFn (size : Nat) (f : Nat → Option Byte) : (Memory.ofFn size f).wf size = true := by
  simp only [Memory.wf, Bool.and_eq_true]
  refine ⟨rising_of_pairwise _ ?_, ?_⟩
  · refine List.Pairwise.filterMap _ (R := (· < ·)) (fun a b hab x hx y hy => ?_) List.pairwise_lt_range
    simp only [Option.map_eq_some_iff] at hx hy
    obtain ⟨_, _, rfl⟩ := hx
    obtain ⟨_, _, rfl⟩ := hy
    exact hab
  · simp only [Memory.ofFn, List.all_eq_true, List.mem_filterMap, List.mem_range, Option.map_eq_some_iff,
      decide_eq_true_eq]
    rintro x ⟨a, ha, v, -, rfl⟩
    exact ha

/-- Whatever the controller has met, its address counter is inside its target. -/
theorem Lcd.ofFree_ac_lt (u : FreeController) : (Lcd.ofFree u).ac.toNat < (Lcd.ofFree u).target.size := by
  cases h : u.cgramTarget with
  | false => simp [Lcd.ofFree, h, Target.size]; omega
  | true =>
    simp only [Lcd.ofFree, h, Target.size, if_true, BitVec.toNat_and]
    exact Nat.lt_of_le_of_lt Nat.and_le_right (by decide)

/-! ### Events, pins and the wire -/

@[simp] theorem pinsAfter_nil (m : PinMap) : pinsAfter m [] = m := rfl

@[simp] theorem pinsAfter_cons (m : PinMap) (e : Event) (es : List Event) :
    pinsAfter m (e :: es) = pinsAfter (applyEvent m e) es := rfl

@[simp] theorem pinsAfter_append (m : PinMap) (es fs : List Event) :
    pinsAfter m (es ++ fs) = pinsAfter (pinsAfter m es) fs := List.foldl_append

theorem wireAfter_append (P : Params) (n : Nat) (m : PinMap) (es fs : List Event) :
    wireAfter P n m (es ++ fs) = wireAfter P n m es ++ wireAfter P (n + es.length) (pinsAfter m es) fs := by
  induction es generalizing n m with
  | nil => simp [wireAfter]
  | cons e es ih =>
    simp only [List.cons_append, wireAfter, ih, pinsAfter_cons, List.length_cons, List.append_assoc]
    congr 3
    omega

/-- Emitting twice is emitting both lists at once. -/
theorem State.emit_emit (s : State) (es fs : List Event) : (s.emit es).emit fs = s.emit (es ++ fs) := by
  simp [State.emit, wireAfter_append, List.append_assoc]

@[simp] theorem State.emit_nil (s : State) : s.emit [] = s := by simp [State.emit, wireAfter]

/-- A transaction is one list of events, and leaves the bus in INPUT (40_bus_direction.md R103). -/
theorem State.transaction_eq (s : State) (body : List Event) :
    s.transaction body = { s.emit (claimEvents s.cfg ++ body ++ releaseEvents s.cfg) with busMode := .input } := by
  have h := s.emit_emit (claimEvents s.cfg) body
  have h' := s.emit_emit (claimEvents s.cfg ++ body) (releaseEvents s.cfg)
  rw [← h', ← h]
  rfl

@[simp] theorem State.transaction_trace (s : State) (body : List Event) :
    (s.transaction body).trace = s.trace ++ (claimEvents s.cfg ++ body ++ releaseEvents s.cfg) := by
  rw [State.transaction_eq]
  rfl

theorem State.transaction_pins (s : State) (body : List Event) :
    (s.transaction body).pins = pinsAfter s.pins (claimEvents s.cfg ++ body ++ releaseEvents s.cfg) := by
  rw [State.transaction_eq]
  rfl

theorem State.transaction_wire (s : State) (body : List Event) :
    (s.transaction body).wire =
      s.wire ++ wireAfter s.cfg s.trace.length s.pins (claimEvents s.cfg ++ body ++ releaseEvents s.cfg) := by
  rw [State.transaction_eq]
  rfl

/-- What one event does to the record of one pin (10_state.md R33). -/
theorem pin_applyEvent (m : PinMap) (e : Event) (p : PinId) :
    PinMap.pin (applyEvent m e) p =
      match e with
      | .setMode q d => if p = q then ⟨d.mode, none⟩ else PinMap.pin m p
      | .drive q l => if p = q then { PinMap.pin m p with level := some l } else PinMap.pin m p
      | .delay _ => PinMap.pin m p
      | .read _ _ => PinMap.pin m p
      | .millis _ => PinMap.pin m p := by
  cases e with
  | setMode q d =>
    by_cases h : p = q
    · subst h; simp [applyEvent, PinMap.pin]
    · simp [applyEvent, PinMap.pin, h, assocGet_assocSet_other h]
  | drive q l =>
    by_cases h : p = q
    · subst h; simp [applyEvent, PinMap.pin]
    · simp [applyEvent, PinMap.pin, h, assocGet_assocSet_other h]
  | delay _ => rfl
  | read _ _ => rfl
  | millis _ => rfl

/-- Every event keeps the canonical form of the pins. -/
theorem PinMap.wf_applyEvent (m : PinMap) (e : Event) (hm : m.wf = true) : PinMap.wf (applyEvent m e) = true := by
  simp only [PinMap.wf, Bool.and_eq_true] at hm ⊢
  cases e with
  | setMode q d =>
    exact ⟨rising_assocSet _ _ _ hm.1, all_assocSet _ _ _ _ hm.2 (by cases d <;> rfl)⟩
  | drive q l =>
    refine ⟨rising_assocSet _ _ _ hm.1, all_assocSet _ _ _ _ hm.2 ?_⟩
    simp [Pin.untouched]
  | delay _ => exact hm
  | read _ _ => exact hm
  | millis _ => exact hm

theorem PinMap.wf_pinsAfter (m : PinMap) (es : List Event) (hm : m.wf = true) : PinMap.wf (pinsAfter m es) = true := by
  induction es generalizing m with
  | nil => exact hm
  | cons e es ih => exact ih _ (PinMap.wf_applyEvent m e hm)

/-! ### The checks before an operation -/

/-- A host operation runs its body when no fault is set and no wait is pending. -/
theorem hostOp_of_callable {s : State} (h : s.Callable) (body : State → State) : hostOp s body = .next (body s) := by
  simp [hostOp, h.1, h.2]

/-- Everything a host operation that answers a next state can have done. -/
theorem hostOp_next {s t : State} {body : State → State} (h : hostOp s body = .next t) : s.Callable ∧ t = body s := by
  unfold hostOp at h
  split at h
  · cases h
  · split at h
    · cases h
    · cases h
      exact ⟨⟨‹_›, ‹_›⟩, rfl⟩

theorem whenReady_of_ready {s : State} (h : s.Ready) (body : State → State) : whenReady s body = .next (body s) := by
  simp [whenReady, hostOp_of_callable h.1, h.2]

theorem whenReady_of_notReady {s : State} (h : s.Callable) (hp : s.phase ≠ .ready) (body : State → State) :
    whenReady s body = .next (s.raise .notReady) := by
  simp [whenReady, hostOp_of_callable h, hp]

/-- Everything a phase-checked operation that answers a next state can have done. -/
theorem whenReady_next {s t : State} {body : State → State} (h : whenReady s body = .next t) :
    (s.Ready ∧ t = body s) ∨ (s.Callable ∧ s.phase ≠ .ready ∧ t = s.raise .notReady) := by
  obtain ⟨hc, ht⟩ := hostOp_next h
  by_cases hp : s.phase = .ready
  · exact .inl ⟨⟨hc, hp⟩, by simpa [hp] using ht⟩
  · exact .inr ⟨hc, hp, by simpa [hp] using ht⟩

theorem buttonOperand_of_lt {b : Byte} (h : b.toNat < 5) : buttonOperand b = some ⟨b.toNat, h⟩ := by
  unfold buttonOperand
  split <;> simp_all
  omega

theorem buttonOperand_of_ge {b : Byte} (h : 5 ≤ b.toNat) : buttonOperand b = none := by
  unfold buttonOperand
  split <;> simp_all

theorem withButton_of_lt {s : State} (hs : s.Ready) {b : Byte} (h : b.toNat < 5) (body : Fin 5 → State → State) :
    withButton s b body = .next (body ⟨b.toNat, h⟩ s) := by
  simp [withButton, whenReady_of_ready hs, buttonOperand_of_lt h]

theorem withButton_of_ge {s : State} (hs : s.Ready) {b : Byte} (h : 5 ≤ b.toNat) (body : Fin 5 → State → State) :
    withButton s b body = .next (s.raise .badButton) := by
  simp [withButton, whenReady_of_ready hs, buttonOperand_of_ge h]

/-! ### Buttons -/

@[simp] theorem Buttons.get_set_same (v : Buttons) (b : Fin 5) (r : Button) : (v.set b r).get b = r := by
  fin_cases b <;> rfl

theorem Buttons.get_set_other {b c : Fin 5} (h : c ≠ b) (v : Buttons) (r : Button) : (v.set b r).get c = v.get c := by
  fin_cases b <;> fin_cases c <;> first | rfl | exact absurd rfl h

/-- Two button vectors with the same five records are equal. -/
theorem Buttons.ext_get {v w : Buttons} (h : ∀ b, v.get b = w.get b) : v = w := by
  have h0 := h 0
  have h1 := h 1
  have h2 := h 2
  have h3 := h 3
  have h4 := h 4
  cases v
  cases w
  simp_all [Buttons.get]

/-! ### Draws and samples -/

/-- A read emits one event and takes at most one input. -/
theorem State.drawRead_spec (s : State) (p : PinId) :
    (s.drawRead p).2.trace = s.trace ++ [.read p (s.drawRead p).1] ∧ (s.drawRead p).2.pins = s.pins ∧
      (s.drawRead p).2.wire = s.wire ∧ (s.drawRead p).2.readInputs = s.readInputs.tail := by
  unfold State.drawRead
  split <;> simp [applyEvent, wireAfter, wireOfEvent, *]

/-- The millisecond draw likewise. -/
theorem State.drawMillis_spec (s : State) :
    s.drawMillis.2.trace = s.trace ++ [.millis s.drawMillis.1] ∧ s.drawMillis.2.pins = s.pins ∧
      s.drawMillis.2.wire = s.wire ∧ s.drawMillis.2.millisInputs = s.millisInputs.tail := by
  unfold State.drawMillis
  split <;> simp [applyEvent, wireAfter, wireOfEvent, *]

/-- Everything a sample can do: the guard, the gate, or a tick (44_buttons.md R210). -/
theorem State.sample_cases (s : State) :
    (s.busMode ≠ .input ∧ s.sample = s.raise .busNotInput) ∨
    (s.busMode = .input ∧ (s.drawMillis.1 - s.tLast).toNat < POLL_MS ∧ s.sample = s.drawMillis.2) ∨
    (s.busMode = .input ∧ POLL_MS ≤ (s.drawMillis.1 - s.tLast).toNat ∧
      s.sample = { s.drawMillis.2 with tLast := s.drawMillis.1 }.tick) := by
  by_cases hb : s.busMode = .input
  · by_cases hg : (s.drawMillis.1 - s.tLast).toNat < POLL_MS
    · refine .inr (.inl ⟨hb, hg, ?_⟩)
      unfold State.sample
      rw [if_neg (by simp [hb])]
      simp only [State.drawMillis_tLast, if_pos hg]
    · refine .inr (.inr ⟨hb, by omega, ?_⟩)
      unfold State.sample
      rw [if_neg (by simp [hb])]
      simp only [State.drawMillis_tLast, if_neg hg]
  · exact .inl ⟨hb, by unfold State.sample; rw [if_pos hb]⟩

end Sys2Proof.Machine
end

