-- ==== Sys2Proof/Laws/PerInstr.lean ====
section
/-! SUPPORT. Facts about every instruction as syntax, one lemma a constructor. -/

namespace Sys2Proof.Laws.Lengths

open Sys2Proof

/-- The words of a well-formed instruction are as long as 30_encoding.md R72 and R80 say. -/
def Statement (i : Instr) : Prop := i.wf = true → (encode i).units = i.units

theorem beginInit (columns lines fontSize : Byte) : Statement (.beginInit columns lines fontSize) := fun _ => rfl

theorem clear : Statement .clear := fun _ => rfl

theorem home : Statement .home := fun _ => rfl

theorem setCursor (col row : Byte) : Statement (.setCursor col row) := fun _ => rfl

theorem setRowOffsets (r0 r1 r2 r3 : Byte) : Statement (.setRowOffsets r0 r1 r2 r3) := fun _ => rfl

theorem displayOn : Statement .displayOn := fun _ => rfl

theorem displayOff : Statement .displayOff := fun _ => rfl

theorem cursorOn : Statement .cursorOn := fun _ => rfl

theorem cursorOff : Statement .cursorOff := fun _ => rfl

theorem blinkOn : Statement .blinkOn := fun _ => rfl

theorem blinkOff : Statement .blinkOff := fun _ => rfl

theorem leftToRight : Statement .leftToRight := fun _ => rfl

theorem rightToLeft : Statement .rightToLeft := fun _ => rfl

theorem autoscrollOn : Statement .autoscrollOn := fun _ => rfl

theorem autoscrollOff : Statement .autoscrollOff := fun _ => rfl

theorem scrollLeft : Statement .scrollLeft := fun _ => rfl

theorem scrollRight : Statement .scrollRight := fun _ => rfl

theorem createChar (slot : Byte) (bitmap : List Byte) : Statement (.createChar slot bitmap) := by
  intro h
  have h8 : bitmap.length = 8 := by simpa [Instr.wf] using h
  simp [encode, Code.units, Instr.units, h8]

theorem write (v : Byte) : Statement (.write v) := fun _ => rfl

theorem sampleButtons : Statement .sampleButtons := fun _ => rfl

theorem takePressedEdge (b : Byte) : Statement (.takePressedEdge b) := fun _ => rfl

theorem waitPressedEdge (b : Byte) : Statement (.waitPressedEdge b) := fun _ => rfl

theorem isHeld (b : Byte) : Statement (.isHeld b) := fun _ => rfl

theorem rawLevel (b : Byte) : Statement (.rawLevel b) := fun _ => rfl

theorem wireClearDisplay : Statement .wireClearDisplay := fun _ => rfl

theorem wireReturnHome (x : BitVec 1) : Statement (.wireReturnHome x) := fun _ => rfl

theorem wireEntryModeSet (i s : Bool) : Statement (.wireEntryModeSet i s) := fun _ => rfl

theorem wireDisplayControl (d c b : Bool) : Statement (.wireDisplayControl d c b) := fun _ => rfl

theorem wireCursorShift (s r : Bool) (x : BitVec 2) : Statement (.wireCursorShift s r x) := fun _ => rfl

theorem wireFunctionSet (l n f : Bool) (x : BitVec 2) : Statement (.wireFunctionSet l n f x) := fun _ => rfl

theorem wireSetCgramAddr (a : BitVec 6) : Statement (.wireSetCgramAddr a) := fun _ => rfl

theorem wireSetDdramAddr (a : BitVec 7) : Statement (.wireSetDdramAddr a) := fun _ => rfl

theorem wireInitNibble3 : Statement .wireInitNibble3 := fun _ => rfl

theorem wireInitNibble2 : Statement .wireInitNibble2 := fun _ => rfl

theorem wireDataByte (d : Byte) : Statement (.wireDataByte d) := fun _ => rfl

end Sys2Proof.Laws.Lengths
end

