-- ==== Sys2Proof/Laws/Step.lean ====
section
/-! SUPPORT. What a step can do, once and for all; what the display operations do in a READY state; the nibble write on the
wire. -/

namespace Sys2Proof.Machine

open Sys2Proof

/-! ### Steps -/

theorem decodeHost_empty {bytes : List Byte} (h : decodeHost bytes = .empty) : bytes = [] := by
  cases bytes with
  | nil => rfl
  | cons id rest =>
    exfalso
    unfold decodeHost at h
    repeat' split at h
    all_goals simp_all

/-- Everything the host can do with its text: it puts calls in hand, or names an operation that does not exist. -/
theorem fetchLine_next {s t : State} (h : fetchLine s = .next t) :
    (∃ ops lines, t = { s with hostOps := ops, hostLines := lines }) ∨ t = s.raise .illegalOp := by
  unfold fetchLine at h
  split at h
  · cases h
  · split at h <;> cases h <;> exact .inl ⟨_, _, rfl⟩
  · split at h <;> cases h
    exacts [.inl ⟨_, _, rfl⟩, .inl ⟨_, _, rfl⟩, .inr rfl]

/-- Everything a step that answers a next state can have done: the controller ran a wire form, passed the power-up item or
met transfers without a meaning, or the block iterated its wait, ran the host's next call, or raised ILLEGAL_OP, or the
host took up its text. -/
theorem step_cases {s t : State} (h : step s = .next t) :
    (∃ i rest, nextWire s.lcd.dl s.wire = .run i rest ∧ exec i { s with wire := rest } = .next t) ∨
    (∃ rest, nextWire s.lcd.dl s.wire = .dropped rest ∧ t = { s with wire := rest }) ∨
    (∃ rest, nextWire s.lcd.dl s.wire = .misread rest ∧ t = { s.misread with wire := rest }) ∨
    (nextWire s.lcd.dl s.wire = .waiting ∧ s.fault = none ∧
      ((∃ b, s.waitBtn = some b ∧ waitIter b s = .next t) ∨
        (s.waitBtn = none ∧ ∃ i rest, decodeHost s.hostOps = .op i rest ∧
          exec i { s with hostOps := rest } = .next t) ∨
        (s.waitBtn = none ∧ ∃ id, decodeHost s.hostOps = .illegal id ∧ t = s.raise .illegalOp) ∨
        (s.waitBtn = none ∧ s.hostOps = [] ∧ fetchLine s = .next t))) := by
  unfold step at h
  cases hw : nextWire s.lcd.dl s.wire with
  | run i rest => exact .inl ⟨i, rest, rfl, by simpa [fetch, hw] using h⟩
  | dropped rest => exact .inr (.inl ⟨rest, rfl, by simpa [fetch, hw] using h.symm⟩)
  | misread rest => exact .inr (.inr (.inl ⟨rest, rfl, by simpa [fetch, hw] using h.symm⟩))
  | waiting =>
    refine .inr (.inr (.inr ⟨rfl, ?_⟩))
    cases hf : s.fault with
    | some code => simp [fetch, hw, fetchHost, hf] at h
    | none =>
      refine ⟨rfl, ?_⟩
      cases hb : s.waitBtn with
      | some b => exact .inl ⟨b, rfl, by simpa [fetch, hw, fetchHost, hf, hb] using h⟩
      | none =>
        cases hd : decodeHost s.hostOps with
        | op i rest =>
          exact .inr (.inl ⟨rfl, i, rest, rfl, by simpa [fetch, hw, fetchHost, hf, hb, hd] using h⟩)
        | illegal id =>
          exact .inr (.inr (.inl ⟨rfl, id, rfl, by simpa [fetch, hw, fetchHost, hf, hb, hd] using h.symm⟩))
        | truncated id => simp [fetch, hw, fetchHost, hf, hb, hd] at h
        | empty =>
          exact .inr (.inr (.inr ⟨rfl, decodeHost_empty hd, by simpa [fetch, hw, fetchHost, hf, hb, hd] using h⟩))

/-- What the controller decodes is a wire form. -/
theorem decodeWireByte_isWire {rs : Rs} {v : Byte} {i : Instr} (h : decodeWireByte rs v = some i) : i.isWire = true := by
  cases rs with
  | data => cases h; rfl
  | cmd =>
    simp only [decodeWireByte] at h
    split_ifs at h <;> cases h <;> rfl

theorem decodeWireNibble_isWire {rs : Rs} {n : Nibble} {i : Instr} (h : decodeWireNibble rs n = some i) :
    i.isWire = true := by
  cases rs with
  | data => cases h
  | cmd =>
    simp only [decodeWireNibble] at h
    split_ifs at h <;> cases h <;> rfl

/-- What the controller runs is a wire form, and it takes transfers from the front of the wire only. -/
theorem nextWire_run {dl : Bool} {w rest : List WireItem} {i : Instr} (h : nextWire dl w = .run i rest) :
    i.isWire = true ∧ ∃ taken, w = taken ++ rest := by
  unfold nextWire at h
  split at h
  · cases h
  · cases h
  · rename_i rs n rest'
    split at h
    · split at h
      · rename_i hi
        cases h
        exact ⟨decodeWireNibble_isWire hi, [.transfer rs n], rfl⟩
      · cases h
    · split at h
      · cases h
      · cases h
      · rename_i rs' n' rest''
        split at h
        · split at h
          · rename_i hi
            cases h
            exact ⟨decodeWireByte_isWire hi, [.transfer rs n, .transfer rs' n'], rfl⟩
          · cases h
        · cases h

theorem nextWire_dropped {dl : Bool} {w rest : List WireItem} (h : nextWire dl w = .dropped rest) :
    ∃ rs k, w = .powerUp rs k :: rest := by
  unfold nextWire at h
  split at h
  · cases h
  · cases h
    exact ⟨_, _, rfl⟩
  · exfalso
    repeat' split at h
    all_goals cases h

/-- What has no meaning is taken from the front of the wire, and is never nothing. -/
theorem nextWire_misread {dl : Bool} {w rest : List WireItem} (h : nextWire dl w = .misread rest) :
    ∃ taken, taken ≠ [] ∧ w = taken ++ rest := by
  unfold nextWire at h
  split at h
  · cases h
  · cases h
  · rename_i rs n rest'
    split at h
    · split at h
      · cases h
      · cases h
        exact ⟨[.transfer rs n], by simp, rfl⟩
    · split at h
      · cases h
      · cases h
        exact ⟨[.transfer rs n], by simp, rfl⟩
      · rename_i rs' n' rest''
        split at h
        · split at h
          · cases h
          · cases h
            exact ⟨[.transfer rs n, .transfer rs' n'], by simp, rfl⟩
        · cases h
          exact ⟨[.transfer rs n, .transfer rs' n'], by simp, rfl⟩

/-- What the host calls is no wire form. -/
theorem hostInstr_isHost {id : Byte} {ops : List Byte} {i : Instr} (h : hostInstr id ops = some i) :
    i.isWire = false := by
  unfold hostInstr at h
  split at h
  all_goals first | cases h | (split at h <;> cases h; rfl)

theorem decodeHost_isHost {bytes rest : List Byte} {i : Instr} (h : decodeHost bytes = .op i rest) :
    i.isWire = false := by
  unfold decodeHost at h
  split at h
  · cases h
  · split at h
    · cases h
    · split at h
      · cases h
      · split at h
        · rename_i hi
          cases h
          exact hostInstr_isHost hi
        · cases h

/-! ### Shared shapes of the meanings in a READY state -/

theorem displayOp_of_ready {s : State} (h : s.Ready) (body : State → List Event) :
    displayOp s body = .next ((s.transaction (body s)).returning .none) := whenReady_of_ready h _

theorem displayControlOp_of_ready {s : State} (h : s.Ready) (change : Byte → Byte) :
    displayControlOp s change =
      .next (({ s with displaycontrol := change s.displaycontrol }.transaction
        (cmd s.cfg (displayControlByte (change s.displaycontrol)))).returning .none) := whenReady_of_ready h _

theorem entryModeOp_of_ready {s : State} (h : s.Ready) (change : Byte → Byte) :
    entryModeOp s change =
      .next (({ s with displaymode := change s.displaymode }.transaction
        (cmd s.cfg (entryModeByte (change s.displaymode)))).returning .none) := whenReady_of_ready h _

/-- Everything an iteration of a wait that answers a next state can have done. -/
theorem waitIter_next {s t : State} {b : Fin 5} (h : waitIter b s = .next t) :
    s.fault = none ∧
      (((s.btn.get b).last = .low ∧ t = ({ s with waitBtn := none }.finishWait b).returning .none) ∨
        ((s.btn.get b).last = .high ∧ t = s.sample)) := by
  unfold waitIter at h
  split at h
  · cases h
  · refine ⟨‹_›, ?_⟩
    split at h
    · cases h
      exact .inl ⟨‹_›, rfl⟩
    · cases h
      refine .inr ⟨?_, rfl⟩
      cases hl : (s.btn.get b).last with
      | low => simp_all
      | high => rfl

/-! ### Parameters and the nibble write -/

theorem elec_true_ne_false (P : Params) : elec P true ≠ elec P false := by
  unfold elec
  cases P.ctrlActiveLow <;> decide

/-- What valid parameters say of the pins, pair by pair (10_state.md R34). -/
structure PinsApart (P : Params) : Prop where
  rs_en : P.rsPin ≠ P.enPin
  rs_d0 : P.rsPin ≠ P.dataPin.d0
  rs_d1 : P.rsPin ≠ P.dataPin.d1
  rs_d2 : P.rsPin ≠ P.dataPin.d2
  rs_d3 : P.rsPin ≠ P.dataPin.d3
  en_d0 : P.enPin ≠ P.dataPin.d0
  en_d1 : P.enPin ≠ P.dataPin.d1
  en_d2 : P.enPin ≠ P.dataPin.d2
  en_d3 : P.enPin ≠ P.dataPin.d3
  d0_d1 : P.dataPin.d0 ≠ P.dataPin.d1
  d0_d2 : P.dataPin.d0 ≠ P.dataPin.d2
  d0_d3 : P.dataPin.d0 ≠ P.dataPin.d3
  d1_d2 : P.dataPin.d1 ≠ P.dataPin.d2
  d1_d3 : P.dataPin.d1 ≠ P.dataPin.d3
  d2_d3 : P.dataPin.d2 ≠ P.dataPin.d3
  button : ∀ b : Fin 5, P.buttonPin.get b ≠ P.rsPin ∧ P.buttonPin.get b ≠ P.enPin

theorem pinsApart_of_valid {P : Params} (h : P.valid = true) : PinsApart P := by
  simp only [Params.valid, ButtonPins.toList, Bool.and_eq_true, decide_eq_true_eq, List.nodup_cons, List.mem_cons,
    List.not_mem_nil, List.all_cons, bne_iff_ne, ne_eq, not_or, or_false] at h
  obtain ⟨⟨⟨re, r0, r1, r2, r3⟩, ⟨e0, e1, e2, e3⟩, ⟨d01, d02, d03⟩, ⟨d12, d13⟩, d23, -⟩, hb⟩ := h
  refine ⟨re, r0, r1, r2, r3, e0, e1, e2, e3, d01, d02, d03, d12, d13, d23, fun b => ?_⟩
  fin_cases b <;> simp only [ButtonPins.get] <;> tauto

/-- One nibble write makes one transfer, with the RS level that stands and the nibble just driven, and leaves EN idle and RS
as it was (41_transmit.md R120, R121). -/
theorem write4_wire {P : Params} (D : PinsApart P) (hx : P.wireExact = true) (n : Nat) (m : PinMap) (v : Nibble) (rs : Rs)
    (hen : (PinMap.pin m P.enPin).level = some (elec P false))
    (hrs : (PinMap.pin m P.rsPin).level = some (elec P rs.asserted)) :
    wireAfter P n m (write4 P v) = [.transfer rs v] ∧
      (PinMap.pin (pinsAfter m (write4 P v)) P.enPin).level = some (elec P false) ∧
      (PinMap.pin (pinsAfter m (write4 P v)) P.rsPin).level = some (elec P rs.asserted) := by
  have hne := elec_true_ne_false P
  refine ⟨?_, ?_, ?_⟩
  · simp only [write4, pulseEnable, List.cons_append, List.nil_append, wireAfter, wireOfEvent, pin_applyEvent, nibbleOnWire,
      rsOnWire, lineHigh, hx, hen, hrs, hne, hne.symm, D.rs_en, D.rs_d0, D.rs_d1, D.rs_d2, D.rs_d3, D.en_d0, D.en_d1,
      D.en_d2, D.en_d3, D.en_d0.symm, D.en_d1.symm, D.en_d2.symm, D.en_d3.symm, D.d0_d1, D.d0_d2, D.d0_d3, D.d1_d2,
      D.d1_d3, D.d2_d3, D.d0_d1.symm, D.d0_d2.symm, D.d0_d3.symm, D.d1_d2.symm, D.d1_d3.symm, D.d2_d3.symm,
      if_true, if_false, false_and, and_self, and_false, List.append_nil, List.cons.injEq, and_true,
      WireItem.transfer.injEq, Option.some.injEq]
    constructor
    · cases rs
      · simp [Rs.asserted, hne.symm]
      · simp [Rs.asserted]
    · revert v
      decide
  · simp [write4, pulseEnable, pin_applyEvent]
  · simp [write4, pulseEnable, pin_applyEvent, D.rs_en, D.rs_d0, D.rs_d1, D.rs_d2, D.rs_d3, hrs]

end Sys2Proof.Machine
end

