-- ==== Sys2Proof/Tests/Slice0.lean ====
section
/-! SUPPORT. The model's own tests, small and on fixed values. Expected results are those of spec/95_test_vectors.md, or hand
calculation from the rule named. First well-formedness and decoding, then meanings, then a witness for the hypotheses of
every statement that has some. -/

namespace Sys2Proof.Machine.Tests

open Sys2Proof Sys2Proof.Machine

/-! ### Small states -/

/-- The conventions of 95_test_vectors.md: active-high, B4 distinct; RS = pin 0, EN = pin 1, D0..D3 = pins 2..5, B4 = pin
6. -/
def testParams : Params where
  rsPin := 0
  enPin := 1
  dataPin := ⟨2, 3, 4, 5⟩
  buttonPin := ⟨2, 3, 4, 5, 6⟩
  ctrlActiveLow := false
  defaultGlyphs := Vector.replicate 8 (Vector.replicate 8 0x15#8)
  waitConsumesLatch := true
  wireExact := true

def constructed : State := State.construct testParams

/-- The READY state after `begin 16,2,0`, with an empty trace and the controller caught up. -/
def readyState : State :=
  { constructed with
    phase := .ready
    busMode := .input
    displayfunction := 0x08#8
    displaycontrol := 0x04#8
    displaymode := 0x02#8
    rowOffsets := ⟨0x00#8, 0x40#8, 0x10#8, 0x50#8⟩
    numlines := 2#8
    pins := [(0, ⟨.output, some .low⟩), (1, ⟨.output, some .low⟩), (2, ⟨.inputPullup, none⟩), (3, ⟨.inputPullup, none⟩),
      (4, ⟨.inputPullup, none⟩), (5, ⟨.inputPullup, none⟩), (6, ⟨.inputPullup, none⟩)]
    lcd := { constructed.lcd with dl := false, n := true, d := true } }

/-- The state an outcome gives; a state that is faulted where it gives none. -/
def after : Host.Outcome State Fault Refusal → State
  | .next s => s
  | .fault _ => { constructed with fault := some .illegalOp }
  | .refused _ => { constructed with fault := some .illegalOp }

def isNext : Host.Outcome State Fault Refusal → Bool
  | .next _ => true
  | .fault _ => false
  | .refused _ => false

/-- Constructed, with one call of BEGIN to come. -/
def startState : State := { constructed with hostOps := [0x01, 0x10, 0x02, 0x00] }

/-- The transfers an operation puts on an empty wire. -/
def wireOf (i : Instr) : List WireItem := (after (exec i readyState)).wire

def cmdByte (v : Byte) : List WireItem := byteTransfers .cmd v

def withButton0 (r : Button) : State := { readyState with btn := readyState.btn.set 0 r }

/-! ### Well-formedness (WellFormed.lean) -/

theorem test_wf_refuses_short_bitmap : Instr.wf (.createChar 3#8 [0x00#8]) = false := by decide
theorem test_wf_refuses_long_bitmap : Instr.wf (.createChar 3#8 [0, 0, 0, 0, 0, 0, 0, 0, 0]) = false := by decide
theorem test_wf_accepts_bitmap : Instr.wf (.createChar 9#8 [0, 1, 2, 3, 4, 5, 6, 7]) = true := by decide

/-! ### Decoding: words written from R70, R74, R76 and R77, every constructor -/

theorem test_decode_with_operands :
    decode (.host [0x01, 0x10, 0x02, 0x00]) = some (.beginInit 16 2 0) ∧
    decode (.host [0x04, 0x03, 0x01]) = some (.setCursor 3 1) ∧
    decode (.host [0x05, 0x00, 0x40, 0x14, 0x54]) = some (.setRowOffsets 0x00 0x40 0x14 0x54) ∧
    decode (.host [0x12, 0x09, 0x04, 0x0E, 0x1F, 0x04, 0x04, 0x04, 0x04, 0x00]) =
      some (.createChar 9 [0x04, 0x0E, 0x1F, 0x04, 0x04, 0x04, 0x04, 0x00]) ∧
    decode (.host [0x13, 0x48]) = some (.write 0x48) ∧
    decode (.host [0x21, 0x07]) = some (.takePressedEdge 7) ∧
    decode (.host [0x22, 0x02]) = some (.waitPressedEdge 2) ∧
    decode (.host [0x23, 0x02]) = some (.isHeld 2) ∧
    decode (.host [0x24, 0xFF]) = some (.rawLevel 255) := by decide

theorem test_decode_one_byte :
    decode (.host [0x02]) = some .clear ∧ decode (.host [0x03]) = some .home ∧
    decode (.host [0x06]) = some .displayOn ∧ decode (.host [0x07]) = some .displayOff ∧
    decode (.host [0x08]) = some .cursorOn ∧ decode (.host [0x09]) = some .cursorOff ∧
    decode (.host [0x0A]) = some .blinkOn ∧ decode (.host [0x0B]) = some .blinkOff ∧
    decode (.host [0x0C]) = some .leftToRight ∧ decode (.host [0x0D]) = some .rightToLeft ∧
    decode (.host [0x0E]) = some .autoscrollOn ∧ decode (.host [0x0F]) = some .autoscrollOff ∧
    decode (.host [0x10]) = some .scrollLeft ∧ decode (.host [0x11]) = some .scrollRight ∧
    decode (.host [0x20]) = some .sampleButtons := by decide

theorem test_decode_wire :
    decode (.wireByte .cmd 0b00000001) = some .wireClearDisplay ∧
    decode (.wireByte .cmd 0b00000011) = some (.wireReturnHome 1) ∧
    decode (.wireByte .cmd 0b00000110) = some (.wireEntryModeSet true false) ∧
    decode (.wireByte .cmd 0b00001011) = some (.wireDisplayControl false true true) ∧
    decode (.wireByte .cmd 0b00011110) = some (.wireCursorShift true true 2) ∧
    decode (.wireByte .cmd 0b00101000) = some (.wireFunctionSet false true false 0) ∧
    decode (.wireByte .cmd 0b01111000) = some (.wireSetCgramAddr 56) ∧
    decode (.wireByte .cmd 0b11000011) = some (.wireSetDdramAddr 0x43) ∧
    decode (.wireByte .data 0x41) = some (.wireDataByte 0x41) ∧
    decode (.wireNibble .cmd 0b0011) = some .wireInitNibble3 ∧
    decode (.wireNibble .cmd 0b0010) = some .wireInitNibble2 := by decide

theorem test_decode_rejects :
    decodeHost [0x00] = .illegal 0x00 ∧ decodeHost [0x14] = .illegal 0x14 ∧ decodeHost [0x1F] = .illegal 0x1F ∧
    decodeHost [0x25] = .illegal 0x25 ∧ decodeHost [0xFF, 0x01] = .illegal 0xFF ∧
    decodeHost [0x04, 0x03] = .truncated 0x04 ∧ decode (.wireByte .cmd 0x00) = none ∧
    decode (.wireNibble .cmd 0x1) = none ∧ decode (.wireNibble .data 0x3) = none := by decide

/-- P1's bytes, one operation after the other (95_test_vectors.md). -/
theorem test_decode_stream : decodeHost [0x04, 0x03, 0x01, 0x13, 0x48] = .op (.setCursor 3 1) [0x13, 0x48] := by decide

theorem test_table_words :
    decodeTableWord 8 0x01 = some (.beginInit 0 0 0) ∧ decodeTableWord 32 0x00021001 = some (.beginInit 16 2 0) ∧
    decodeTableWord 16 0x4813 = some (.write 0x48) ∧ decodeTableWord 8 0x40 = some (.wireSetCgramAddr 0) ∧
    decodeTableWord 8 0x80 = some (.wireSetDdramAddr 0) := by decide

theorem test_fetch_word_runs_host_op :
    (after (step (readyState.withFetchWord 16 0x4813))).wire = byteTransfers .data 0x48 := by decide
theorem test_fetch_word_runs_wire_op : (after (step (readyState.withFetchWord 8 0x83))).lcd.ac = 3#7 := by decide
theorem test_fetch_word_at_reset : (after (step (State.reset.withFetchWord 8 0x02))).fault = some .notReady := by decide

/-! ### Assembler (R81, R82) -/

theorem test_asm_example : decodeLine "set_cursor 0, 1 ; row 1" = .calls [.setCursor 0 1] := by decide +kernel
theorem test_asm_bracket :
    decodeLine "create_char 3, [0x00,0x0A,0x1F,31,0x0E,0x04,0,0]" =
      .calls [.createChar 3 [0, 10, 31, 31, 14, 4, 0, 0]] := by decide +kernel
theorem test_asm_char_and_result :
    decodeLine "write ';'" = .calls [.write 0x3B] ∧ decodeLine "is_held 2 -> h" = .calls [.isHeld 2] := by decide +kernel
theorem test_asm_unknown_name :
    decodeLine "command 1" = .unknown "command" ∧ decodeLine " COMMAND 1x" = .unknown "COMMAND" ∧
    decodeLine "COMMAND \"x" = .unknown "COMMAND" ∧ decodeLine "7" = .unknown "7" := by decide +kernel
theorem test_asm_malformed :
    decodeLine "clear 1" = .malformed ∧ decodeLine "write 1x" = .malformed ∧ decodeLine "write 256" = .malformed ∧ decodeLine "set_cursor 3" = .malformed ∧
    decodeLine "-> x" = .malformed ∧ decodeLine "clear -> x" = .calls [.clear] := by decide +kernel
theorem test_asm_pseudo :
    decodeLine "print \"Hi;\"" = .calls [.write 0x48, .write 0x69, .write 0x3B] ∧
    decodeLine "no_display" = .calls [.displayOff] ∧ decodeLine "poll_until_held 4" = .poll 4 ∧
    decodeLine "; nothing" = .calls [] := by decide +kernel
theorem test_polling :
    (after (fetchLine { readyState with hostLines := [.polling 4], result := .bool false })).hostOps = [0x20, 0x23, 0x04] ∧
    (after (fetchLine { readyState with hostLines := [.polling 4], result := .bool true })).hostLines = [] := by decide

/-! ### Construction and BEGIN (L1.2, L1.9, V1.3, V3, V8) -/

theorem test_construct_checks_pins :
    (State.construct { testParams with enPin := 0 }).fault = some .badConfig ∧
    (State.construct { testParams with buttonPin := ⟨2, 3, 4, 5, 1⟩ }).fault = some .badConfig ∧
    (State.construct { testParams with buttonPin := ⟨2, 3, 4, 5, 3⟩ }).fault = none := by decide

theorem test_begin_end_state :
    (after (execBeginInit 16 2 0 constructed)).displayfunction = 0x08#8 ∧
    (after (execBeginInit 16 2 0 constructed)).rowOffsets = ⟨0x00, 0x40, 0x10, 0x50⟩ ∧
    (after (execBeginInit 200 1 1 constructed)).displayfunction = 0x04#8 ∧
    (after (execBeginInit 200 1 1 constructed)).rowOffsets = ⟨0x00, 0x40, 0xC8, 0x08⟩ ∧
    (after (execBeginInit 20 4 1 constructed)).displayfunction = 0x08#8 ∧
    (after (execBeginInit 16 2 0 constructed)).phase = .ready := by decide

theorem test_begin_costs :
    (after (execBeginInit 16 2 0 constructed)).trace.length = 1766 ∧
    delayTotal (after (execBeginInit 16 2 0 constructed)).trace = 77302 := by decide +kernel

/-- The events in R140's order, written out in BeginEvents, on V3.1's operands. -/
theorem test_begin_events :
    (after (execBeginInit 16 2 0 constructed)).trace = BeginEvents testParams 0x28#8 := by decide +kernel

theorem test_begin_handshake :
    (after (execBeginInit 16 2 0 constructed)).wire.take 7 =
      [.powerUp .cmd 10, .transfer .cmd 3, .transfer .cmd 3, .transfer .cmd 3, .transfer .cmd 2, .transfer .cmd 2,
       .transfer .cmd 8] := by decide +kernel

theorem test_setup_pins :
    setupPins testParams = [.setMode 0 .output, .setMode 1 .output, .setMode 6 .inputPullup] ∧
    setupPins { testParams with buttonPin := ⟨2, 3, 4, 4, 4⟩ } = [.setMode 0 .output, .setMode 1 .output] ∧
    setupPins { testParams with buttonPin := ⟨2, 3, 4, 9, 9⟩ } =
      [.setMode 0 .output, .setMode 1 .output, .setMode 9 .inputPullup] := by decide

theorem test_begin_faults :
    (after (execBeginInit 16 0 0 constructed)).fault = some .badLines ∧
    (after (execBeginInit 16 0 0 constructed)).phase = .uninit ∧
    (after (execBeginInit 16 2 0 readyState)).fault = some .alreadyBegun := by decide

/-! ### Transmit (V2) -/

theorem test_send_active_low :
    (data { testParams with ctrlActiveLow := true } 0xFF).take 7 =
      [.drive 0 .low, .drive 2 .high, .drive 3 .high, .drive 4 .high, .drive 5 .high, .drive 1 .high, .delay 1] := by
  decide

theorem test_send_nibble_order :
    (cmd testParams 0xA5).take 5 = [.drive 0 .low, .drive 2 .low, .drive 3 .high, .drive 4 .low, .drive 5 .high] := by decide

/-! ### Display operations (V4) -/

theorem test_clear_home :
    wireOf .clear = cmdByte 0x01 ∧ wireOf .home = cmdByte 0x02 ∧
    (after (exec .clear readyState)).trace.length = 32 := by decide

theorem test_set_cursor :
    wireOf (.setCursor 3 1) = cmdByte 0xC3 ∧ wireOf (.setCursor 0 5) = cmdByte 0xC0 ∧
    wireOf (.setCursor 255 0) = cmdByte 0xFF ∧ wireOf (.setCursor 0x40 1) = cmdByte 0x80 ∧
    wireOf (.setCursor 255 255) = cmdByte 0xBF := by decide

theorem test_set_row_offsets :
    (after (exec (.setRowOffsets 0x10 0x20 0x30 0x40) readyState)).rowOffsets = ⟨0x10, 0x20, 0x30, 0x40⟩ ∧
    (after (exec (.setRowOffsets 0x10 0x20 0x30 0x40) readyState)).trace = [] := by decide

theorem test_display_toggles :
    wireOf .displayOn = cmdByte 0x0C ∧ wireOf .displayOff = cmdByte 0x08 ∧ wireOf .cursorOn = cmdByte 0x0E ∧
    wireOf .cursorOff = cmdByte 0x0C ∧ wireOf .blinkOn = cmdByte 0x0D ∧ wireOf .blinkOff = cmdByte 0x0C := by decide

theorem test_display_off_keeps_cursor :
    (after (exec .displayOff { readyState with displaycontrol := 0x07 })).displaycontrol = 0x03 := by decide

theorem test_entry_toggles :
    wireOf .leftToRight = cmdByte 0x06 ∧ wireOf .rightToLeft = cmdByte 0x04 ∧ wireOf .autoscrollOn = cmdByte 0x07 ∧
    wireOf .autoscrollOff = cmdByte 0x06 := by decide

theorem test_scroll : wireOf .scrollLeft = cmdByte 0x18 ∧ wireOf .scrollRight = cmdByte 0x1C := by decide

theorem test_create_char :
    (wireOf (.createChar 9 [4, 14, 31, 4, 4, 4, 4, 0])).take 4 = cmdByte 0x48 ++ byteTransfers .data 0x04 ∧
    (after (exec (.createChar 200 [0, 0, 0, 0, 0, 0, 0, 0]) readyState)).trace.length = 199 := by decide +kernel

theorem test_write : wireOf (.write 0x41) = byteTransfers .data 0x41 ∧ wireOf (.write 0xFF) = byteTransfers .data 0xFF := by
  decide

/-! ### Buttons (V5, V6, V7) -/

theorem test_automaton :
    stepButton ⟨.high, 10, 0, false⟩ .low = ⟨.high, 11, 0, false⟩ ∧
    stepButton ⟨.high, 11, 0, false⟩ .low = ⟨.low, 0, 100, true⟩ ∧
    stepButton ⟨.high, 3, 0, false⟩ .high = ⟨.high, 0, 0, false⟩ ∧
    stepButton ⟨.low, 0, 100, false⟩ .low = ⟨.low, 0, 99, false⟩ ∧
    stepButton ⟨.low, 0, 1, false⟩ .low = ⟨.low, 0, 30, true⟩ ∧
    stepButton ⟨.low, 0, 50, false⟩ .high = ⟨.low, 1, 50, false⟩ ∧
    stepButton ⟨.low, 11, 40, true⟩ .high = ⟨.high, 0, 100, true⟩ := by decide

theorem test_sample_gate :
    (after (exec .sampleButtons { readyState with millisInputs := [4] })).trace = [.millis 4] ∧
    (after (exec .sampleButtons { readyState with tLast := 65533, millisInputs := [2], readInputs := [.high, .high, .low, .high, .high] })).tLast = 2 := by
  decide

theorem test_sample_reads_in_order :
    (after (exec .sampleButtons { readyState with millisInputs := [5], readInputs := [.high, .high, .low, .high, .low] })).trace =
      [.millis 5, .read 2 .high, .read 3 .high, .read 4 .low, .read 5 .high, .read 6 .low] := by decide

theorem test_take :
    (after (exec (.takePressedEdge 0) (withButton0 ⟨.low, 0, 100, true⟩))).result = .bool true ∧
    ((after (exec (.takePressedEdge 0) (withButton0 ⟨.low, 0, 100, true⟩))).btn.get 0) = ⟨.low, 0, 100, false⟩ := by decide

theorem test_is_held :
    (after (exec (.isHeld 0) (withButton0 ⟨.low, 0, 100, true⟩))).result = .bool true ∧
    (after (exec (.isHeld 0) (withButton0 ⟨.high, 11, 0, false⟩))).result = .bool false := by decide

theorem test_raw_level :
    (after (exec (.rawLevel 4) { readyState with readInputs := [.low] })).trace = [.read 6 .low] ∧
    (after (exec (.rawLevel 4) { readyState with readInputs := [.low] })).result = .level .low := by decide

theorem test_wait_entry :
    (after (exec (.waitPressedEdge 0) (withButton0 ⟨.high, 0, 0, true⟩))).waitBtn = none ∧
    ((after (exec (.waitPressedEdge 0) (withButton0 ⟨.high, 0, 0, true⟩))).btn.get 0).latched = false ∧
    (after (exec (.waitPressedEdge 1) readyState)).waitBtn = some 1 := by decide

theorem test_wait_pretest :
    (after (step { withButton0 ⟨.low, 0, 70, false⟩ with waitBtn := some 0 })).waitBtn = none ∧
    (after (step { withButton0 ⟨.low, 0, 70, false⟩ with waitBtn := some 0 })).trace = [] := by decide

/-! ### Faults (V8, P5) -/

theorem test_fault_order :
    (after (step { constructed with hostOps := [0x21, 0x05] })).fault = some .notReady ∧
    (after (step { constructed with hostOps := [0x14] })).fault = some .illegalOp ∧
    (after (exec (.takePressedEdge 5) readyState)).fault = some .badButton ∧
    (after (exec (.rawLevel 255) readyState)).fault = some .badButton := by decide

theorem test_fault_is_sticky :
    step { constructed with fault := some .notReady, hostOps := [0x01, 0x10, 0x02, 0x00] } = .fault (.noStep .notReady) := by
  rfl

/-! ### The reference controller (V4.8, L1.7) -/

theorem test_controller_write :
    (after (exec (.wireDataByte 0x41) readyState)).lcd.read .ddram 0 = some 0x41 ∧
    (after (exec (.wireDataByte 0x42) { readyState with lcd := { readyState.lcd with ac := 1, id := false } })).lcd.ac = 0 := by
  decide

theorem test_controller_commands :
    (after (exec .wireClearDisplay readyState)).lcd.read .ddram 127 = some 0x20 ∧
    (after (exec (.wireReturnHome 0) { readyState with lcd := { readyState.lcd with ac := 9 } })).lcd.ac = 0 ∧
    (after (exec (.wireSetCgramAddr 24) readyState)).lcd.target = .cgram ∧
    (after (exec (.wireDisplayControl false true true) readyState)).lcd.d = false ∧
    (after (exec (.wireEntryModeSet false true) readyState)).lcd.s = true ∧
    (after (exec (.wireCursorShift true false 0) readyState)).lcd.shift = -1 ∧
    (after (exec (.wireFunctionSet false true false 0) constructed)).lcd.n = true ∧
    (after (exec .wireInitNibble2 constructed)).lcd.dl = false ∧
    (after (exec .wireInitNibble3 readyState)).lcd.dl = true := by decide

/-- P1: 'H' ends at DDRAM 0x43 (the byte of SET_CURSOR 3, 1 executed by the controller, then the data byte). -/
theorem test_controller_reads_pairs :
    (after (step { readyState with wire := cmdByte 0xC3 ++ byteTransfers .data 0x48 })).lcd.ac = 0x43 ∧
    (after (step { readyState with wire := byteTransfers .data 0x48, lcd := { readyState.lcd with ac := 0x43 } })).lcd.read
      .ddram 0x43 = some 0x48 := by decide

/-! ### Witnesses: states and operands that meet the hypotheses of the statements, at the ends of their ranges -/

theorem ready_readyState : readyState.Ready := ⟨⟨rfl, rfl⟩, rfl⟩
theorem wireReady_readyState : readyState.WireReady := by
  refine ⟨by decide, rfl, by decide⟩

/-- A READY block with a call to come and a byte of an earlier operation pending. -/
def busyState : State := { readyState with hostOps := [0x13, 0x48], wire := cmdByte 0xC3 }

/-- A wait for button 4, the last one. -/
def waitingState : State := { readyState with waitBtn := some 4, hostOps := [0x02], millisInputs := [5] }

/-- Inputs on which button 4 is accepted at the twelfth tick, the others reading HIGH. -/
def lowInputs : List Level := (List.replicate 12 [Level.high, .high, .high, .high, .low]).flatten
def lowMillis : List Millis16 := [5, 10, 15, 20, 25, 30, 35, 40, 45, 50, 55, 60]

theorem witness_DecodeOfEncodeIsTheInstruction :
    (Instr.createChar 255 [0, 1, 2, 3, 4, 5, 6, 255]).wf = true ∧ (Instr.wireCursorShift true false 3).wf = true := by decide

theorem witness_EachWordHasOneMeaning :
    decode (.wireByte .cmd 0x3F) = some (.wireFunctionSet true true true 3) ∧
    decodeHost [0x24, 0xFF, 0x02] = .op (.rawLevel 0xFF) [0x02] := by decide

theorem witness_HostOperationLengthFollowsItsId :
    decodeHost [0x01, 1, 2, 3, 0x02] = .op (.beginInit 1 2 3) [0x02] ∧
    decodeHost [0x01, 9, 9, 9] = .op (.beginInit 9 9 9) [] ∧
    decodeHost (0x13 :: List.replicate 9 0) = .op (.write 0) (List.replicate 8 0) ∧
    decodeHost (0x20 :: List.replicate 9 0) = .op .sampleButtons (List.replicate 9 0) ∧
    decodeHost (0x24 :: List.replicate 9 0) = .op (.rawLevel 0) (List.replicate 8 0) ∧
    decodeHost (0x12 :: List.replicate 9 0) = .op (.createChar 0 (List.replicate 8 0)) [] := by decide

theorem witness_StepRunsTheNextHostOperation :
    let s := { readyState with hostOps := [0x02] }
    nextWire s.lcd.dl s.wire = .waiting ∧ s.Callable ∧ decodeHost s.hostOps = .op .clear [] ∧
    decodeHost { s with hostOps := [0x25] }.hostOps = .illegal 0x25 ∧
    (let u := { readyState with hostLines := [.line "COMMAND 1"] }
     u.hostOps = [] ∧ u.hostLines = .line "COMMAND 1" :: [] ∧ u.Callable) ∧
    (let u := { readyState with hostLines := [.polling 4], result := .bool true }
     u.hostOps = [] ∧ u.hostLines = .polling 4 :: [] ∧ u.result = .bool true ∧ u.Callable) ∧
    readyState.result ≠ .bool true :=
  ⟨rfl, ⟨rfl, rfl⟩, rfl, rfl, ⟨rfl, rfl, rfl, rfl⟩, ⟨rfl, rfl, rfl, rfl, rfl⟩, by decide⟩

/-- A poll as a line, its round, and its two ends (R82). -/
theorem test_poll_steps :
    (after (step { readyState with hostLines := [.line "poll_until_held 4"] })).hostOps = [0x20, 0x23, 0x04] ∧
    (after (step { readyState with hostLines := [.line "poll_until_held 4"] })).hostLines = [.polling 4] := by
  decide +kernel

theorem witness_StepRunsWhatTheControllerLatched :
    (let s := { constructed with wire := [.transfer .cmd 0x2] }
     s.wire = .transfer .cmd 0x2#4 :: [] ∧ s.lcd.dl = true ∧ decode (.wireNibble .cmd 0x2#4) = some .wireInitNibble2) ∧
    (busyState.wire = byteTransfers .cmd 0xC3#8 ++ [] ∧ busyState.lcd.dl = false ∧
      decode (.wireByte .cmd 0xC3#8) = some (.wireSetDdramAddr 0x43#7)) ∧
    { constructed with wire := [.powerUp .cmd 10] }.wire = .powerUp .cmd 10 :: [] := by
  refine ⟨⟨rfl, rfl, by decide⟩, ⟨rfl, rfl, by decide⟩, rfl⟩

theorem witness_FaultedBlockHasNoStep :
    let s := { readyState with fault := some .badButton }
    s.fault = some .badButton ∧ Instr.isWire .clear = false ∧ nextWire s.lcd.dl s.wire = .waiting := ⟨rfl, rfl, rfl⟩

/-- A faulted block's transfers still reach the controller. -/
theorem witness_StepNeverClearsAFault :
    (after (step { busyState with fault := some .badButton })).lcd.ac = 0x43 ∧
    (after (step { busyState with fault := some .badButton })).fault = some .badButton := by decide

theorem witness_PhaseMovesOnlyByBegin :
    isNext (exec .displayOn readyState) = true ∧ Instr.mnemonic .displayOn ≠ "BEGIN" ∧
    isNext (step startState) = true ∧ (after (step startState)).phase ≠ startState.phase := by decide +kernel

theorem witness_WaitEndsOnlyOnItsButtonPressed :
    step waitingState = .next (after (step waitingState)) ∧ waitingState.waitBtn = some 4 := by
  refine ⟨?_, rfl⟩
  rfl

theorem witness_PhaseIsCheckedFirst :
    constructed.Callable ∧ constructed.phase ≠ .ready ∧ readyState.Callable ∧ readyState.phase ≠ .uninit :=
  ⟨⟨rfl, rfl⟩, by decide, ⟨rfl, rfl⟩, by decide⟩

theorem witness_ButtonIndexIsChecked :
    readyState.Ready ∧ 5 ≤ (5 : Byte).toNat ∧ 5 ≤ (255 : Byte).toNat := ⟨ready_readyState, by decide, by decide⟩

theorem witness_BeginChecksPhaseThenLines :
    readyState.Callable ∧ readyState.phase ≠ .uninit ∧ constructed.Callable ∧ constructed.phase = .uninit :=
  ⟨⟨rfl, rfl⟩, by decide, ⟨rfl, rfl⟩, rfl⟩

theorem witness_BusModeIsCheckedBeforeAnyRead :
    { readyState with busMode := .output }.Ready ∧ { readyState with busMode := .output }.busMode ≠ .input ∧
    (4 : Byte).toNat < 5 := ⟨⟨⟨rfl, rfl⟩, rfl⟩, by decide, by decide⟩

theorem witness_FaultsArePrecise :
    exec (.setCursor 0 0) constructed = .next (Raised constructed .notReady) ∧ constructed.fault = none ∧
    (Raised constructed .notReady).fault = some .notReady := ⟨rfl, rfl, rfl⟩

theorem witness_ConstructionChecksThePins :
    (State.construct { testParams with buttonPin := ⟨2, 3, 4, 5, 1⟩ }).fault = some .badConfig ∧
    (State.construct testParams).fault = none := by decide

theorem witness_TransferLaw :
    testParams.valid = true ∧ testParams.wireExact = true ∧
    (PinMap.pin readyState.pins testParams.enPin).level = some (elec testParams false) ∧
    ({ testParams with ctrlActiveLow := true } : Params).valid = true ∧
    (PinMap.pin [(1, ⟨.output, some .high⟩)] 1).level = some (elec { testParams with ctrlActiveLow := true } false) := by
  decide

theorem witness_BeginCompletes :
    constructed.Callable ∧ constructed.phase = .uninit ∧ (1 : Byte) ≠ 0#8 ∧ (255 : Byte) ≠ 0#8 ∧
    constructed.cfg.valid = true ∧ constructed.cfg.wireExact = true := by
  refine ⟨⟨rfl, rfl⟩, rfl, by decide, by decide, by decide, rfl⟩

/-- The display operations, SAMPLE_BUTTONS, TAKE, IS_HELD, RAW_LEVEL and WAIT all ask for this state, some for an index. -/
theorem witness_ReadyOperations :
    readyState.Ready ∧ readyState.WireReady ∧ readyState.busMode = .input ∧ (0 : Byte).toNat < 5 ∧ (4 : Byte).toNat < 5 ∧
    (readyState.btn.get 4).latched = false ∧
    ((withButton0 ⟨.low, 0, 100, true⟩).btn.get 0).latched = true ∧ (withButton0 ⟨.low, 0, 100, true⟩).Ready :=
  ⟨ready_readyState, wireReady_readyState, rfl, by decide, by decide, rfl, rfl, ⟨⟨rfl, rfl⟩, rfl⟩⟩

/-- The clamp of the row at both its ends: one line, four lines, more than four. -/
theorem witness_SetCursorSendsTheClampedAddress :
    clampRow 1 255 = 0 ∧ clampRow 4 3 = 3 ∧ clampRow 4 4 = 3 ∧ clampRow 255 255 = 3 ∧ clampRow 2 0 = 0 := by decide

theorem witness_DebounceLatency :
    Level.low ≠ Button.released.last ∧ Button.released.run.toNat ≤ 11 ∧
    Level.high ≠ (⟨.low, 11, 40, false⟩ : Button).last ∧ (⟨.low, 11, 40, false⟩ : Button).run.toNat ≤ 11 := by decide

theorem witness_RepeatCadence :
    let r : Button := ⟨.low, 0, 100, true⟩
    r.last = .low ∧ r.run = 0#8 ∧ r.rep = 100#8 ∧
    (stepButton { (fun x => stepButton x .low)^[98] r with latched := false } .low).latched = false ∧
    (stepButton { (fun x => stepButton x .low)^[99] r with latched := false } .low).latched = true ∧
    (stepButton { (fun x => stepButton x .low)^[129] r with latched := false } .low).latched = true := by decide +kernel

theorem witness_WaitIteration :
    nextWire waitingState.lcd.dl waitingState.wire = .waiting ∧ waitingState.fault = none ∧
    waitingState.waitBtn = some 4 ∧ (waitingState.btn.get 4).last = .high ∧ waitingState.busMode = .input ∧
    ({ waitingState with btn := waitingState.btn.set 4 ⟨.low, 0, 70, false⟩ }.btn.get 4).last = .low :=
  ⟨rfl, rfl, rfl, rfl, rfl, rfl⟩

theorem witness_WaitReturnsAfterThirteenIterations :
    let s := { waitingState with millisInputs := lowMillis, readInputs := lowInputs }
    nextWire s.lcd.dl s.wire = .waiting ∧ s.fault = none ∧ s.waitBtn = some 4 ∧ s.busMode = .input ∧
    (s.btn.get 4).last = .high ∧ (s.btn.get 4).run = 0#8 ∧ FeedsLow 4 12 s.tLast s.millisInputs s.readInputs := by
  refine ⟨rfl, rfl, rfl, rfl, rfl, rfl, ?_⟩
  simp [FeedsLow, lowMillis, lowInputs, waitingState, readyState, constructed, State.construct, List.replicate]

theorem witness_OnlySamplingWritesTheRecords :
    exec (.takePressedEdge 4) readyState = .next (after (exec (.takePressedEdge 4) readyState)) ∧
    Instr.mnemonic (.takePressedEdge 4) ≠ "SAMPLE_BUTTONS" ∧
    exec .clear readyState = .next (after (exec .clear readyState)) := ⟨rfl, by decide, rfl⟩

theorem witness_SamplingKeepsLatches :
    (let s := { withButton0 ⟨.low, 0, 100, true⟩ with millisInputs := [5], readInputs := [.low, .low, .low, .low, .low] }
     isNext (exec .sampleButtons s) = true ∧ (s.btn.get 0).latched = true ∧
      ((after (exec .sampleButtons s)).btn.get 0).latched = true) ∧
    (let s := { withButton0 ⟨.low, 0, 100, true⟩ with waitBtn := some 4, millisInputs := [4] }
     isNext (waitIter 4 s) = true ∧ (s.btn.get 4).last = .high ∧ (s.btn.get 0).latched = true) := by decide

theorem witness_WritersOfTheDisplayState :
    exec .autoscrollOn readyState = .next (after (exec .autoscrollOn readyState)) ∧
    (after (exec .autoscrollOn readyState)).displaymode ≠ readyState.displaymode := ⟨rfl, by decide⟩

/-- The address counter at both ends of both targets. -/
theorem witness_DataByteIsWrittenAtTheAddressCounter :
    (let s := { readyState with lcd := { readyState.lcd with ac := 127, id := true } }
     s.lcd.ac.toNat < s.lcd.target.size ∧ (after (exec (.wireDataByte 7) s)).lcd.ac = 0) ∧
    (let s := { readyState with lcd := { readyState.lcd with ac := 0, id := false } }
     s.lcd.ac.toNat < s.lcd.target.size ∧ (after (exec (.wireDataByte 7) s)).lcd.ac = 127) ∧
    (let s := { readyState with lcd := { readyState.lcd with ac := 63, target := .cgram, id := true } }
     s.lcd.ac.toNat < s.lcd.target.size ∧ (after (exec (.wireDataByte 7) s)).lcd.ac = 0) := by decide

theorem witness_CursorShiftHasNoMemoryEffect :
    let s := { readyState with lcd := { readyState.lcd with ac := 0, target := .cgram } }
    s.lcd.ac.toNat < s.lcd.target.size ∧ (after (exec (.wireCursorShift false false 0) s)).lcd.ac = 63 := by decide

theorem witness_BlockAndControllerMeetOnlyOnTheWire :
    exec .clear readyState = .next (after (exec .clear readyState)) ∧ Instr.isWire .clear = false ∧
    exec .wireClearDisplay readyState = .next (after (exec .wireClearDisplay readyState)) ∧
    Instr.isWire .wireClearDisplay = true := ⟨rfl, rfl, rfl, rfl⟩

theorem witness_StepsExecuteTheWire :
    busyState.absorb busyState.wire = some (after (exec (.wireSetDdramAddr 0x43) busyState)) := by rfl

theorem witness_GlyphReachesTheController :
    [4, 14, 31, 4, 4, 4, 4, (0 : Byte)].length = 8 ∧ readyState.Ready ∧ readyState.WireReady ∧ readyState.wire = [] ∧
    readyState.lcd.dl = false ∧
    (let s := { readyState with lcd := { readyState.lcd with id := false } }
     s.Ready ∧ s.WireReady ∧ s.wire = [] ∧ s.lcd.dl = false) :=
  ⟨rfl, ready_readyState, wireReady_readyState, rfl, rfl, ready_readyState, wireReady_readyState, rfl, rfl⟩

/-- R276 by hand in the decrementing mode: slot 0 is written downwards, at 0, 63, ..., 57. -/
theorem test_glyph_downwards :
    let s := after (exec (.createChar 8 [1, 2, 3, 4, 5, 6, 7, 8])
      { readyState with lcd := { readyState.lcd with id := false } })
    (s.absorb s.wire).map (fun u => (u.lcd.read .cgram 0, u.lcd.read .cgram 63, u.lcd.read .cgram 57, u.lcd.ac)) =
      some (some 1, some 2, some 8, 56) := by decide +kernel

/-! ### The invariants have a READY member with a step -/

theorem witness_ControlInv : busyState.ControlInv := by constructor <;> decide
theorem witness_PinInv : busyState.PinInv := by
  constructor <;> decide
theorem witness_LcdInv : busyState.LcdInv := by constructor <;> decide
theorem witness_ButtonsInRange : busyState.ButtonsInRange := by unfold State.ButtonsInRange; decide
theorem witness_ShadowInv : busyState.ShadowInv :=
  ⟨fun h => absurd h (by decide), fun _ => ⟨_, rfl, by decide⟩⟩
theorem witness_ReplayInv : startState.ReplayInv := ⟨rfl, rfl, [], rfl⟩
/-- The events of BEGIN without its glyphs and its clear. -/
def shortTrace : List Event :=
  setupPins testParams ++ claimEvents testParams ++ handshake testParams ++ cmd testParams 0x28 ++ cmd testParams 0x0C ++
    cmd testParams 0x06 ++ releaseEvents testParams

/-- A READY block with that trace, all of it executed by the controller, and RIGHT_TO_LEFT to come. -/
def begunState : State := { readyState with trace := shortTrace, pins := pinsAfter [] shortTrace, hostOps := [0x0D] }

theorem witness_CommandInv : begunState.CommandInv :=
  ⟨fun h => absurd h (by decide), fun _ => ⟨10, [(.cmd, 0x28), (.cmd, 0x0C), (.cmd, 0x06)], by decide +kernel, by decide,
    by decide, by decide⟩⟩

/-- The state of `witness_CommandInv` meets the other hypotheses of StepKeepsTheShadow too, and steps. -/
theorem witness_StepKeepsTheShadow :
    begunState.ControlInv ∧ begunState.PinInv ∧ begunState.cfg.wireExact = true ∧ isNext (step begunState) = true ∧
    begunState.ReplayInv ∧ begunState.ShadowInv := by
  refine ⟨?_, ?_, rfl, by decide +kernel, ⟨rfl, by decide +kernel, begunState.wireLog, (List.append_nil _).symm⟩,
    fun h => absurd h (by decide), fun _ => ⟨_, rfl, by decide⟩⟩ <;>
    constructor <;> decide +kernel

theorem witness_InvariantSteps :
    isNext (step busyState) = true ∧ isNext (step startState) = true ∧ (after (step startState)).trace.length = 1766 := by
  decide +kernel

theorem witness_OnlyListedCommandBytesAreEmitted :
    busyState.Ready ∧ busyState.WireReady ∧ busyState.ControlInv ∧
    exec (.setCursor 255 255) busyState = .next (after (exec (.setCursor 255 255) busyState)) :=
  ⟨⟨⟨rfl, rfl⟩, rfl⟩, ⟨by decide, rfl, by decide⟩, witness_ControlInv, rfl⟩

/-- A block whose wire carries a command byte without a meaning goes on: the controller is in an open state, the block's
call is still made. -/
theorem test_misread_does_not_stop_the_block :
    let s := { readyState with wire := cmdByte 0x00, hostOps := [0x23, 0x00] }
    isNext (step s) = true ∧ (after (step s)).wire = [] ∧ (after (step s)).misreads = 1 ∧
    (after (step (after (step s)))).result = .bool false ∧
    (after (step { s with lcd := { s.lcd with dl := true }, wire := [.transfer .cmd 0x1] })).misreads = 1 := by decide

/-- R246: an unknown name raises in every phase, but not once a fault is set. -/
theorem test_unknown_name_is_illegal :
    (after (step { constructed with hostLines := [.line "COMMAND 1"] })).fault = some .illegalOp ∧
    (after (step { readyState with hostLines := [.line "set_cursor 0, 1"] })).hostOps = [0x04, 0x00, 0x01] ∧
    isNext (step { readyState with fault := some .badLines, hostLines := [.line "COMMAND 1"] }) = false := by
  decide +kernel

/-- The refusals of SoundStatesNeverMisread: no call, half a call, a line that is none. -/
theorem witness_SoundStatesNeverMisread :
    step { readyState with hostOps := [] } = .refused .hostIdle ∧
    step { readyState with hostOps := [0x04, 0x00] } = .refused .incompleteOperation ∧
    fetchLine { readyState with hostLines := [.line "clear 1"] } = .refused .malformedLine := ⟨rfl, rfl, rfl⟩

end Sys2Proof.Machine.Tests
end

/-! ### One step, by the agent that moves, and runs of steps while the controller moves -/

section
namespace Sys2Proof.Machine

open Sys2Proof

/-! #### The controller's side -/

theorem step_of_run {s : State} {i : Instr} {rest : List WireItem} (h : nextWire s.lcd.dl s.wire = .run i rest) :
    step s = exec i { s with wire := rest } := by
  simp only [step, fetch, h]

theorem step_of_dropped {s : State} {rest : List WireItem} (h : nextWire s.lcd.dl s.wire = .dropped rest) :
    step s = .next { s with wire := rest } := by
  simp only [step, fetch, h]

theorem step_of_misread {s : State} {rest : List WireItem} (h : nextWire s.lcd.dl s.wire = .misread rest) :
    step s = .next { s.misread with wire := rest } := by
  simp only [step, fetch, h]

/-- A wire form acts on the controller alone, by a function of the controller alone (20_memory.md R63, R67). -/
theorem exists_controllerOp_of_isWire {i : Instr} (h : i.isWire = true) : ∃ f, ControllerOp i f := by
  cases i with
  | wireClearDisplay => exact ⟨fun c => { c.homed with ddram := Memory.fill 128 0x20#8, id := true }, fun _ => rfl⟩
  | wireReturnHome _ => exact ⟨Lcd.homed, fun _ => rfl⟩
  | wireEntryModeSet up sh => exact ⟨fun l => { l with id := up, s := sh }, fun _ => rfl⟩
  | wireDisplayControl d c b => exact ⟨fun l => { l with d := d, c := c, b := b }, fun _ => rfl⟩
  | wireCursorShift sh right _ =>
    exact ⟨fun l => if sh then { l with shift := if right then l.shift + 1 else l.shift - 1 }
      else { l with ac := l.moved right }, fun _ => rfl⟩
  | wireFunctionSet dl n f _ => exact ⟨fun l => { l with dl := dl, n := n, f := f }, fun _ => rfl⟩
  | wireSetCgramAddr a => exact ⟨fun l => { l with target := .cgram, ac := a.setWidth 7 }, fun _ => rfl⟩
  | wireSetDdramAddr a => exact ⟨fun l => { l with target := .ddram, ac := a }, fun _ => rfl⟩
  | wireInitNibble3 => exact ⟨fun l => { l with dl := true }, fun _ => rfl⟩
  | wireInitNibble2 => exact ⟨fun l => { l with dl := false }, fun _ => rfl⟩
  | wireDataByte d => exact ⟨fun l => l.written d, fun _ => rfl⟩
  | _ => cases h

/-- What the controller runs takes at least one transfer off the wire. -/
theorem length_lt_of_nextWire_run {dl : Bool} {w rest : List WireItem} {i : Instr} (h : nextWire dl w = .run i rest) :
    rest.length < w.length := by
  unfold nextWire at h
  split at h
  · cases h
  · cases h
  · split at h
    · split at h <;> cases h
      simp
    · split at h
      · cases h
      · cases h
      · split at h
        · split at h <;> cases h
          simp only [List.length_cons]
          omega
        · cases h

/-- While the controller has something to act on, a step takes items off the wire and writes nothing but the wire, the
controller and the count of its free values (20_memory.md R67). -/
theorem step_of_not_waiting {s : State} (h : nextWire s.lcd.dl s.wire ≠ .waiting) :
    ∃ rest c m, step s = .next { s with wire := rest, lcd := c, misreads := m } ∧ rest.length < s.wire.length := by
  cases hw : nextWire s.lcd.dl s.wire with
  | run i rest =>
    obtain ⟨f, hf⟩ := exists_controllerOp_of_isWire (nextWire_run hw).1
    exact ⟨rest, f s.lcd, s.misreads, (step_of_run hw).trans (hf _), length_lt_of_nextWire_run hw⟩
  | dropped rest =>
    obtain ⟨rs, k, hitem⟩ := nextWire_dropped hw
    exact ⟨rest, s.lcd, s.misreads, step_of_dropped hw, by simp [hitem]⟩
  | misread rest =>
    obtain ⟨taken, hne, hitems⟩ := nextWire_misread hw
    have hpos := List.length_pos_of_ne_nil hne
    refine ⟨rest, s.misread.lcd, s.misread.misreads, step_of_misread hw, ?_⟩
    rw [hitems, List.length_append]
    omega
  | waiting => exact absurd hw h

/-- What a successful `absorb` does first, in terms of what the controller does next: the wire is empty, or it passes the
power-up item over, or it runs an instruction. -/
theorem absorb_cases {s t : State} {w : List WireItem} (h : s.absorb w = some t) :
    (w = [] ∧ t = s) ∨
    (∃ rest, nextWire s.lcd.dl w = .dropped rest ∧ s.absorb rest = some t) ∨
    (∃ i rest u, nextWire s.lcd.dl w = .run i rest ∧ exec i s = .next u ∧ u.absorb rest = some t) := by
  unfold State.absorb at h
  split at h
  · cases h
    exact .inl ⟨rfl, rfl⟩
  · exact .inr (.inl ⟨_, rfl, h⟩)
  · rename_i rs n rest
    refine .inr (.inr ?_)
    split at h
    · rename_i hdl
      split at h
      · cases h
      · rename_i i hi
        split at h
        · rename_i u hu
          exact ⟨i, rest, u, by simp [nextWire, hdl, hi], hu, h⟩
        · cases h
    · rename_i hdl
      split at h
      · rename_i rs' n' rest'
        split at h
        · rename_i hrs
          subst hrs
          split at h
          · cases h
          · rename_i i hi
            split at h
            · rename_i u hu
              exact ⟨i, rest', u, by simp [nextWire, hdl, hi], hu, h⟩
            · cases h
        · cases h
      · cases h

/-! #### Runs -/

theorem run_succ_of_step {s t : State} (h : step s = .next t) (k : Nat) :
    Host.Core.run core (k + 1) s = Host.Core.run core k t := by
  have hcore : core.step s = .next t := h
  simp only [Host.Core.run, hcore]

/-- Executing what `absorb` takes off the wire `w`: steps of the machine get to the controller `absorb` computes. -/
theorem exists_run_of_absorb {s t : State} {w : List WireItem} (h : s.absorb w = some t) :
    ∃ k, Host.Core.run core k { s with wire := w } = .next { s with wire := [], lcd := t.lcd } := by
  induction hn : w.length using Nat.strong_induction_on generalizing s w with
  | _ n ih =>
    subst hn
    obtain ⟨rfl, rfl⟩ | ⟨rest, hw, hrest⟩ | ⟨i, rest, u, hw, hu, hrest⟩ := absorb_cases h
    · exact ⟨0, rfl⟩
    · obtain ⟨rs, n, rfl⟩ := nextWire_dropped hw
      obtain ⟨k, hk⟩ := ih rest.length (by simp) hrest rfl
      exact ⟨k + 1, (run_succ_of_step (s := { s with wire := _ }) (step_of_dropped hw) k).trans hk⟩
    · obtain ⟨f, hf⟩ := exists_controllerOp_of_isWire (nextWire_run hw).1
      obtain rfl : { s with lcd := f s.lcd } = u := by simpa [hf s] using hu
      obtain ⟨k, hk⟩ := ih rest.length (length_lt_of_nextWire_run hw) hrest rfl
      have hstep : step { s with wire := w } = .next { s with wire := rest, lcd := f s.lcd } :=
        (step_of_run hw).trans (hf _)
      exact ⟨k + 1, (run_succ_of_step hstep k).trans hk⟩

/-- From every state the controller is done with the wire after at most as many steps as it has items. -/
theorem exists_run_to_waiting (s : State) :
    ∃ k w c m, k ≤ s.wire.length ∧ nextWire c.dl w = .waiting ∧
      Host.Core.run core k s = .next { s with wire := w, lcd := c, misreads := m } := by
  induction hn : s.wire.length using Nat.strong_induction_on generalizing s with
  | _ n ih =>
    subst hn
    by_cases hwait : nextWire s.lcd.dl s.wire = .waiting
    · exact ⟨0, s.wire, s.lcd, s.misreads, Nat.zero_le _, hwait, rfl⟩
    · obtain ⟨rest, c, m, hstep, hlt⟩ := step_of_not_waiting hwait
      obtain ⟨k, w, c', m', hk, hdone, hrun⟩ := ih _ hlt { s with wire := rest, lcd := c, misreads := m } rfl
      exact ⟨k + 1, w, c', m', Nat.lt_of_le_of_lt hk hlt, hdone, (run_succ_of_step hstep k).trans hrun⟩

/-- Settles O50: both parts follow the wire item by item, by induction on its length. -/
theorem stepsExecuteTheWire : Obligations.StepsExecuteTheWire :=
  ⟨fun _ _ h => exists_run_of_absorb h, exists_run_to_waiting⟩

/-! #### The block's side -/

section Callable

variable {s : State} (hw : nextWire s.lcd.dl s.wire = .waiting) (hc : s.Callable)
include hw hc

theorem step_of_op {i : Instr} {rest : List Byte} (h : decodeHost s.hostOps = .op i rest) :
    step s = exec i { s with hostOps := rest } := by
  simp only [step, fetch, hw, fetchHost, hc.1, hc.2, h]

theorem step_of_illegal {id : Byte} (h : decodeHost s.hostOps = .illegal id) : step s = .next (s.raise .illegalOp) := by
  simp only [step, fetch, hw, fetchHost, hc.1, hc.2, h]

theorem step_of_no_call (h : s.hostOps = []) : step s = fetchLine s := by
  simp only [step, fetch, hw, fetchHost, hc.1, hc.2, h, decodeHost]

end Callable

section NextLine

variable {s : State} {text : String} {rest : List HostText} (hl : s.hostLines = .line text :: rest)
include hl

theorem fetchLine_of_calls {is : List Instr} (h : decodeLine text = .calls is) :
    fetchLine s = .next { s with hostOps := is.flatMap hostBytes, hostLines := rest } := by
  simp only [fetchLine, hl, h]

theorem fetchLine_of_poll {b : Byte} (h : decodeLine text = .poll b) :
    fetchLine s = .next { s with hostOps := pollCalls b, hostLines := .polling b :: rest } := by
  simp only [fetchLine, hl, h]

theorem fetchLine_of_unknown {name : String} (h : decodeLine text = .unknown name) :
    fetchLine s = .next (s.raise .illegalOp) := by
  simp only [fetchLine, hl, h]

theorem fetchLine_of_malformed (h : decodeLine text = .malformed) : fetchLine s = .refused .malformedLine := by
  simp only [fetchLine, hl, h]

end NextLine

theorem fetchLine_of_polling {s : State} {b : Byte} {rest : List HostText} (hl : s.hostLines = .polling b :: rest) :
    fetchLine s =
      if s.result = .bool true then .next { s with hostLines := rest } else .next { s with hostOps := pollCalls b } := by
  simp only [fetchLine, hl]

/-- Settles O6: the host's calls by what their bytes decode to, its text by what the next line is. -/
theorem stepRunsTheNextHostOperation : Obligations.StepRunsTheNextHostOperation := by
  intro s hw hc
  refine ⟨fun i rest => step_of_op hw hc, fun id => step_of_illegal hw hc, fun text rest hops hl => ?_,
    fun b rest hops hl => ?_⟩
  · rw [step_of_no_call hw hc hops]
    exact ⟨fun is => fetchLine_of_calls hl, fun b => fetchLine_of_poll hl, fun name => fetchLine_of_unknown hl,
      fetchLine_of_malformed hl⟩
  · rw [step_of_no_call hw hc hops, fetchLine_of_polling hl]
    exact ⟨fun h => if_pos h, fun h => if_neg h⟩

end Sys2Proof.Machine
end

/-! ### What an instruction does, once and for all -/

section
namespace Sys2Proof.Machine

open Sys2Proof

/-- These bytes sent one after the other (41_transmit.md R122). -/
def sendAll (P : Params) (bytes : List (Rs × Byte)) : List Event := bytes.flatMap (fun b => send P b.2 b.1)

/-- A byte that writes none of the controller's flags: a data byte, or a command of another family than function set, display
control and entry mode set (30_encoding.md R74). -/
def carriesNoFlagWord (b : Rs × Byte) : Bool :=
  b.1 == .data ||
    (b.2 &&& 0xE0#8 != 0x20#8 && b.2 &&& 0xF8#8 != 0x08#8 && b.2 &&& 0xFC#8 != 0x04#8 && b.2 != 0x00#8)

/-- What an instruction that answers a next state has done (42_init.md R140; 43_display_ops.md R160 to R179; 44_buttons.md
R210, R220, R222, R224, R226; 60_exceptions.md R241). -/
inductive Effect : Instr → State → State → Prop where
  | controller {i : Instr} {s : State} {c : Lcd} (hi : i.isWire = true) : Effect i s { s with lcd := c }
  | raised {i : Instr} {s : State} {code : FaultCode} (hi : i.isWire = false) (hc : s.Callable) : Effect i s (s.raise code)
  | begun {s : State} {columns lines fontSize : Byte} (hc : s.Callable) (hp : s.phase = .uninit) (hl : lines ≠ 0#8) :
      Effect (.beginInit columns lines fontSize) s ((s.beginBody columns lines fontSize).returning .none)
  | sent {i : Instr} {s : State} {bytes : List (Rs × Byte)} {pause : List Nat} (hr : s.Ready)
      (hb : bytes.all carriesNoFlagWord = true) :
      Effect i s ((s.transaction (sendAll s.cfg bytes ++ pause.map .delay)).returning .none)
  | controlToggled {i : Instr} {s : State} {w : Byte}
      (hi : i.mnemonic ∈ ["DISPLAY_ON", "DISPLAY_OFF", "CURSOR_ON", "CURSOR_OFF", "BLINK_ON", "BLINK_OFF"]) (hr : s.Ready)
      (hw : s.displaycontrol &&& 0xF8#8 = 0#8 → w &&& 0xF8#8 = 0#8) :
      Effect i s (({ s with displaycontrol := w }.transaction (cmd s.cfg (displayControlByte w))).returning .none)
  | entryToggled {i : Instr} {s : State} {w : Byte}
      (hi : i.mnemonic ∈ ["LEFT_TO_RIGHT", "RIGHT_TO_LEFT", "AUTOSCROLL_ON", "AUTOSCROLL_OFF"]) (hr : s.Ready)
      (hw : s.displaymode &&& 0xFC#8 = 0#8 → w &&& 0xFC#8 = 0#8) :
      Effect i s (({ s with displaymode := w }.transaction (cmd s.cfg (entryModeByte w))).returning .none)
  | rowOffsetsSet {s : State} {r0 r1 r2 r3 : Byte} (hr : s.Ready) :
      Effect (.setRowOffsets r0 r1 r2 r3) s ({ s with rowOffsets := ⟨r0, r1, r2, r3⟩ }.returning .none)
  | sampled {s : State} (hr : s.Ready) : Effect .sampleButtons s (s.sample.returning .none)
  | latchTaken {s : State} {b : Byte} {c : Fin 5} {r : Result} (hr : s.Ready) :
      Effect (.takePressedEdge b) s ((s.clearLatch c).returning r)
  | waitReturned {s : State} {b : Byte} {c : Fin 5} (hr : s.Ready) :
      Effect (.waitPressedEdge b) s ((s.finishWait c).returning .none)
  | waitEntered {s : State} {b : Byte} {c : Fin 5} (hr : s.Ready) :
      Effect (.waitPressedEdge b) s { s with waitBtn := some c }
  | answered {i : Instr} {s : State} {r : Result} (hr : s.Ready) : Effect i s (s.returning r)
  | pinRead {i : Instr} {s : State} {p : PinId} {r : Result} (hr : s.Ready) : Effect i s ((s.drawRead p).2.returning r)

/-- A command with bit 6 or 7 set is an address command. -/
theorem carriesNoFlagWord_of_bit {rs : Rs} {v : Byte} {k : Nat} (hk : k = 6 ∨ k = 7) (h : v.getLsbD k = true) :
    carriesNoFlagWord (rs, v) = true := by
  have hne (mask base : Byte) (hm : mask.getLsbD k = true) (hb : base.getLsbD k = false) : v &&& mask ≠ base := fun he => by
    have hbit := congrArg (BitVec.getLsbD · k) he
    simp [h, hm, hb] at hbit
  have h0 : v ≠ 0x00#8 := by rintro rfl; simp at h
  obtain rfl | rfl := hk <;>
    simp [carriesNoFlagWord, h0, hne 0xE0#8 0x20#8 rfl rfl, hne 0xF8#8 0x08#8 rfl rfl, hne 0xFC#8 0x04#8 rfl rfl]

theorem carriesNoFlagWord_ddramByte (a : BitVec 7) : carriesNoFlagWord (.cmd, ddramByte a) = true :=
  carriesNoFlagWord_of_bit (.inr rfl) (by simp [ddramByte, CMD_DDRAM])

theorem carriesNoFlagWord_cgramByte (slot : Byte) : carriesNoFlagWord (.cmd, cgramByte slot) = true :=
  carriesNoFlagWord_of_bit (.inl rfl) (by simp [cgramByte, CMD_CGRAM])

/-- The bytes of a glyph upload: the CGRAM address of the slot, then the bitmap (43_display_ops.md R177). -/
def glyphBytes (slot : Byte) (bitmap : List Byte) : List (Rs × Byte) := (.cmd, cgramByte slot) :: bitmap.map (.data, ·)

theorem glyphBody_eq_sendAll (P : Params) (slot : Byte) (bitmap : List Byte) :
    glyphBody P slot bitmap = sendAll P (glyphBytes slot bitmap) := by
  simp only [glyphBody, sendAll, glyphBytes, List.flatMap_cons, List.flatMap_map]
  rfl

theorem glyphBytes_carryNoFlagWord (slot : Byte) (bitmap : List Byte) :
    (glyphBytes slot bitmap).all carriesNoFlagWord = true := by
  simp only [glyphBytes, List.all_cons, carriesNoFlagWord_cgramByte, List.all_map, Bool.true_and, List.all_eq_true]
  exact fun _ _ => rfl

@[simp] theorem sendAll_singleton (P : Params) (rs : Rs) (v : Byte) : sendAll P [(rs, v)] = send P v rs := by
  simp [sendAll]

section Shapes

variable {i : Instr} {s t : State} (hi : i.isWire = false)
include hi

/-- A phase-checked operation raises NOT_READY, or does what its body does to a READY block (60_exceptions.md R242). -/
theorem whenReady_effect {body : State → State} (h : whenReady s body = .next t) (hb : s.Ready → Effect i s (body s)) :
    Effect i s t := by
  obtain ⟨hr, rfl⟩ | ⟨hc, -, rfl⟩ := whenReady_next h
  · exact hb hr
  · exact .raised hi hc

theorem displayOp_effect {body : State → List Event} (bytes : List (Rs × Byte)) (pause : List Nat)
    (h : displayOp s body = .next t) (hbody : body s = sendAll s.cfg bytes ++ pause.map .delay)
    (hb : bytes.all carriesNoFlagWord = true) : Effect i s t :=
  whenReady_effect hi h fun hr => by
    rw [hbody]
    exact .sent hr hb

/-- The common shape of the operations that send one byte. -/
theorem sendOp_effect {body : State → List Event} {rs : Rs} {v : Byte} (h : displayOp s body = .next t)
    (hbody : body s = send s.cfg v rs) (hb : carriesNoFlagWord (rs, v) = true) : Effect i s t :=
  displayOp_effect hi [(rs, v)] [] h (by simp [hbody]) (by simp [hb])

theorem displayControlOp_effect {change : Byte → Byte} (h : displayControlOp s change = .next t)
    (hm : i.mnemonic ∈ ["DISPLAY_ON", "DISPLAY_OFF", "CURSOR_ON", "CURSOR_OFF", "BLINK_ON", "BLINK_OFF"])
    (hw : ∀ w, w &&& 0xF8#8 = 0#8 → change w &&& 0xF8#8 = 0#8) : Effect i s t :=
  whenReady_effect hi h fun hr => .controlToggled hm hr (hw _)

theorem entryModeOp_effect {change : Byte → Byte} (h : entryModeOp s change = .next t)
    (hm : i.mnemonic ∈ ["LEFT_TO_RIGHT", "RIGHT_TO_LEFT", "AUTOSCROLL_ON", "AUTOSCROLL_OFF"])
    (hw : ∀ w, w &&& 0xFC#8 = 0#8 → change w &&& 0xFC#8 = 0#8) : Effect i s t :=
  whenReady_effect hi h fun hr => .entryToggled hm hr (hw _)

/-- A button query raises BAD_BUTTON too (60_exceptions.md R243). -/
theorem withButton_effect {b : Byte} {body : Fin 5 → State → State} (h : withButton s b body = .next t)
    (hb : s.Ready → ∀ c, Effect i s (body c s)) : Effect i s t :=
  whenReady_effect hi h fun hr => by
    split
    · exact hb hr _
    · exact .raised hi hr.1

end Shapes

/-- Setting or clearing flags outside `mask` keeps the bits under it clear. -/
theorem and_setFlag {w m mask : Byte} (hm : m &&& mask = 0#8) (hw : w &&& mask = 0#8) : setFlag w m &&& mask = 0#8 := by
  rw [setFlag, BitVec.and_or_distrib_right, hm, hw, BitVec.or_zero]

theorem and_clearFlag {w mask : Byte} (m : Byte) (hw : w &&& mask = 0#8) : clearFlag w m &&& mask = 0#8 := by
  rw [clearFlag, BitVec.and_assoc, BitVec.and_comm _ mask, ← BitVec.and_assoc, hw, BitVec.zero_and]

/-- Every instruction that answers a next state has one of these effects: the wire forms by
`exists_controllerOp_of_isWire`, the host operations one by one. -/
theorem exec_effect {i : Instr} {s t : State} (h : exec i s = .next t) : Effect i s t := by
  by_cases hi : i.isWire = true
  · obtain ⟨f, hf⟩ := exists_controllerOp_of_isWire hi
    cases (hf s).symm.trans h
    exact .controller hi
  unfold exec at h
  cases i with
  | beginInit columns lines fontSize =>
    simp only [execBeginInit] at h
    obtain ⟨hc, rfl⟩ := hostOp_next h
    split_ifs with hp hl
    · exact .raised rfl hc
    · exact .raised rfl hc
    · exact .begun hc (not_not.mp hp) hl
  | clear => exact displayOp_effect rfl [(.cmd, CMD_CLEAR)] [T_SLOW_CMD_US] h (by simp [cmd]) rfl
  | home => exact displayOp_effect rfl [(.cmd, CMD_HOME)] [T_SLOW_CMD_US] h (by simp [cmd]) rfl
  | setCursor col row => exact sendOp_effect rfl h rfl (carriesNoFlagWord_ddramByte _)
  | setRowOffsets r0 r1 r2 r3 => exact whenReady_effect rfl h .rowOffsetsSet
  | displayOn => exact displayControlOp_effect rfl h (by decide) fun _ => and_setFlag rfl
  | displayOff => exact displayControlOp_effect rfl h (by decide) fun _ => and_clearFlag _
  | cursorOn => exact displayControlOp_effect rfl h (by decide) fun _ => and_setFlag rfl
  | cursorOff => exact displayControlOp_effect rfl h (by decide) fun _ => and_clearFlag _
  | blinkOn => exact displayControlOp_effect rfl h (by decide) fun _ => and_setFlag rfl
  | blinkOff => exact displayControlOp_effect rfl h (by decide) fun _ => and_clearFlag _
  | leftToRight => exact entryModeOp_effect rfl h (by decide) fun _ => and_setFlag rfl
  | rightToLeft => exact entryModeOp_effect rfl h (by decide) fun _ => and_clearFlag _
  | autoscrollOn => exact entryModeOp_effect rfl h (by decide) fun _ => and_setFlag rfl
  | autoscrollOff => exact entryModeOp_effect rfl h (by decide) fun _ => and_clearFlag _
  | scrollLeft => exact sendOp_effect rfl h rfl (by decide)
  | scrollRight => exact sendOp_effect rfl h rfl (by decide)
  | createChar slot bitmap =>
    exact displayOp_effect rfl (glyphBytes slot bitmap) [] h (by simp [glyphBody_eq_sendAll])
      (glyphBytes_carryNoFlagWord slot bitmap)
  | write v => exact sendOp_effect rfl h rfl rfl
  | sampleButtons =>
    refine whenReady_effect rfl h fun hr => ?_
    split
    · exact .raised rfl hr.1
    · exact .sampled hr
  | takePressedEdge b => exact withButton_effect rfl h fun hr c => .latchTaken hr
  | waitPressedEdge b =>
    refine withButton_effect rfl h fun hr c => ?_
    split
    · exact .waitReturned hr
    · exact .waitEntered hr
  | isHeld b => exact withButton_effect rfl h fun hr c => .answered hr
  | rawLevel b =>
    refine withButton_effect rfl h fun hr c => ?_
    split
    · exact .raised rfl hr.1
    · exact .pinRead hr
  | _ => exact absurd rfl hi

end Sys2Proof.Machine
end

/-! ### What a step does, and who writes which part of the state -/

section
namespace Sys2Proof.Machine

open Sys2Proof

/-! #### Steps -/

/-- What the block does in a step of its own: the host's next call, ILLEGAL_OP, the host's text taken up, or an iteration of
the pending wait (10_state.md R32; 44_buttons.md R222; 60_exceptions.md R246). -/
inductive BlockMove : State → State → Prop where
  | ran {s t : State} {i : Instr} {rest : List Byte} (hb : s.waitBtn = none) (hi : i.isWire = false)
      (he : Effect i { s with hostOps := rest } t) : BlockMove s t
  | illegal {s : State} (hb : s.waitBtn = none) : BlockMove s (s.raise .illegalOp)
  | textTaken {s : State} {ops : List Byte} {lines : List HostText} (hb : s.waitBtn = none) :
      BlockMove s { s with hostOps := ops, hostLines := lines }
  | waitEnded {s : State} {b : Fin 5} (hb : s.waitBtn = some b) (hl : (s.btn.get b).last = .low) :
      BlockMove s (({ s with waitBtn := none }.finishWait b).returning .none)
  | waitSampled {s : State} {b : Fin 5} (hb : s.waitBtn = some b) : BlockMove s s.sample

/-- A step is the controller's, which takes items off the front of the wire and writes nothing else but the controller, or the
block's, which needs the controller done with the wire and no fault. -/
theorem step_move {s t : State} (h : step s = .next t) :
    (nextWire s.lcd.dl s.wire ≠ .waiting ∧
      ∃ taken rest c m, s.wire = taken ++ rest ∧ t = { s with wire := rest, lcd := c, misreads := m }) ∨
    (nextWire s.lcd.dl s.wire = .waiting ∧ s.fault = none ∧ BlockMove s t) := by
  obtain ⟨i, rest, hw, hi⟩ | ⟨rest, hw, rfl⟩ | ⟨rest, hw, rfl⟩ | ⟨hw, hf, hblock⟩ := step_cases h
  · obtain ⟨hwire, taken, htaken⟩ := nextWire_run hw
    obtain ⟨f, hf⟩ := exists_controllerOp_of_isWire hwire
    cases (hf _).symm.trans hi
    exact .inl ⟨by simp [hw], taken, rest, _, _, htaken, rfl⟩
  · obtain ⟨rs, k, hitem⟩ := nextWire_dropped hw
    exact .inl ⟨by simp [hw], [.powerUp rs k], rest, _, _, hitem, rfl⟩
  · obtain ⟨taken, -, htaken⟩ := nextWire_misread hw
    exact .inl ⟨by simp [hw], taken, rest, _, _, htaken, rfl⟩
  · refine .inr ⟨hw, hf, ?_⟩
    obtain ⟨b, hb, hiter⟩ | ⟨hb, i, rest, hd, hexec⟩ | ⟨hb, id, hd, rfl⟩ | ⟨hb, -, hline⟩ := hblock
    · obtain ⟨-, ⟨hl, rfl⟩ | ⟨-, rfl⟩⟩ := waitIter_next hiter
      · exact .waitEnded hb hl
      · exact .waitSampled hb
    · exact .ran hb (decodeHost_isHost hd) (exec_effect hexec)
    · exact .illegal hb
    · obtain ⟨ops, lines, rfl⟩ | rfl := fetchLine_next hline
      · exact .textTaken hb
      · exact .illegal hb

/-! #### Parameters, fault and phase -/

theorem Effect.cfg {i : Instr} {s t : State} (h : Effect i s t) : t.cfg = s.cfg := by
  cases h <;> simp

theorem BlockMove.cfg {s t : State} (h : BlockMove s t) : t.cfg = s.cfg := by
  cases h with
  | ran hb hi he => exact he.cfg
  | _ => simp

/-- The phase moves inside begin alone (10_state.md R22). -/
theorem Effect.phase {i : Instr} {s t : State} (h : Effect i s t) :
    t.phase = s.phase ∨ (i.mnemonic = "BEGIN" ∧ s.phase = .uninit ∧ t.phase = .ready) := by
  cases h with
  | begun hc hp hl => exact .inr ⟨rfl, hp, by simp⟩
  | _ => simp

theorem BlockMove.phase {s t : State} (h : BlockMove s t) :
    t.phase = s.phase ∨ (s.phase = .uninit ∧ t.phase = .ready) := by
  cases h with
  | ran hb hi he => exact he.phase.imp_right And.right
  | _ => simp

/-- Settles O9: the controller writes neither, and the block moves only while no fault is set. -/
theorem stepNeverClearsAFault : Obligations.StepNeverClearsAFault := by
  intro s t h
  obtain ⟨-, taken, rest, c, m, -, rfl⟩ | ⟨-, hf, hmove⟩ := step_move h
  · exact ⟨rfl, fun _ => id⟩
  · exact ⟨hmove.cfg, fun code hcode => by simp [hf] at hcode⟩

/-- Settles O10: the phase lemma of an instruction, and that of the block's step. -/
theorem phaseMovesOnlyByBegin : Obligations.PhaseMovesOnlyByBegin := by
  refine ⟨fun i s t h hi => ?_, fun s t h hne => ?_⟩
  · exact (exec_effect h).phase.resolve_right fun hbegin => hi hbegin.1
  · obtain ⟨-, taken, rest, c, m, -, rfl⟩ | ⟨-, -, hmove⟩ := step_move h
    · exact absurd rfl hne
    · exact hmove.phase.resolve_left hne

/-- Settles O11: while a wait is pending the block's only moves are the two of WAIT_ITER. -/
theorem waitEndsOnlyOnItsButtonPressed : Obligations.WaitEndsOnlyOnItsButtonPressed := by
  intro s t b hb h
  obtain ⟨-, taken, rest, c, m, -, rfl⟩ | ⟨-, -, hmove⟩ := step_move h
  · exact ⟨rfl, rfl, .inl hb⟩
  · cases hmove with
    | waitEnded hb' hl =>
      cases hb.symm.trans hb'
      simp [hl]
    | waitSampled _ => simp [hb]
    | ran hb' _ _ | illegal hb' | textTaken hb' => simp [hb] at hb'

/-! #### The Display State and the Button State Vector -/

/-- Settles O44: of the effects, begin's writes all five words, a toggle's its one, the row offsets' theirs. -/
theorem writersOfTheDisplayState : Obligations.WritersOfTheDisplayState := by
  intro i s t h
  cases exec_effect h with
  | begun _ _ _ => simp [Instr.mnemonic]
  | controlToggled hi _ _ => exact ⟨by simp, by simp, fun _ => List.mem_cons_of_mem _ hi, by simp⟩
  | entryToggled hi _ _ => exact ⟨by simp, by simp, by simp, fun _ => List.mem_cons_of_mem _ hi⟩
  | rowOffsetsSet _ => simp [Instr.mnemonic]
  | _ => simp

/-- What the button operations other than a sample leave alone: `t_last`, and of every record all but its latch
(10_state.md R30, R31). -/
def SameSamples (s t : State) : Prop :=
  t.tLast = s.tLast ∧ ∀ b : Fin 5, (t.btn.get b).last = (s.btn.get b).last ∧ (t.btn.get b).run = (s.btn.get b).run ∧
    (t.btn.get b).rep = (s.btn.get b).rep

theorem sameSamples_of_btn_eq {s t : State} (ht : t.tLast = s.tLast) (hb : t.btn = s.btn) : SameSamples s t :=
  ⟨ht, fun b => by simp [hb]⟩

theorem sameSamples_clearLatch (s : State) (b : Fin 5) : SameSamples s (s.clearLatch b) := by
  refine ⟨rfl, fun c => ?_⟩
  by_cases hcb : c = b
  · subst hcb; simp
  · simp [Buttons.get_set_other hcb]

theorem State.finishWait_eq (s : State) (b : Fin 5) : s.finishWait b = s.clearLatch b ∨ s.finishWait b = s := by
  unfold State.finishWait
  split
  · exact .inl rfl
  · exact .inr rfl

theorem sameSamples_finishWait (s : State) (b : Fin 5) : SameSamples s (s.finishWait b) := by
  obtain h | h := s.finishWait_eq b <;> rw [h]
  · exact sameSamples_clearLatch s b
  · exact sameSamples_of_btn_eq rfl rfl

/-- An instruction leaves the records alone, or it samples, or it is one of the two that can clear a latch. -/
theorem Effect.records {i : Instr} {s t : State} (h : Effect i s t) :
    (t.tLast = s.tLast ∧ t.btn = s.btn) ∨ (i = .sampleButtons ∧ t = s.sample.returning .none) ∨
    (i.mnemonic ∈ ["TAKE_PRESSED_EDGE", "WAIT_PRESSED_EDGE"] ∧ SameSamples s t) := by
  cases h with
  | sampled _ => exact .inr (.inl ⟨rfl, rfl⟩)
  | latchTaken _ => exact .inr (.inr ⟨by simp [Instr.mnemonic], sameSamples_clearLatch s _⟩)
  | waitReturned _ => exact .inr (.inr ⟨by simp [Instr.mnemonic], sameSamples_finishWait s _⟩)
  | _ => simp

/-- What holds before a sample and is kept by its parts holds after it (44_buttons.md R210). -/
theorem State.sample_induction {I : State → Prop} {s : State} (hs : I s)
    (hraise : I s → I (s.raise .busNotInput)) (hmillis : I s → I s.drawMillis.2)
    (htLast : ∀ u now, I u → I { u with tLast := now }) (htick : ∀ u b, I u → I (u.tickButton b)) : I s.sample := by
  obtain ⟨-, h⟩ | ⟨-, -, h⟩ | ⟨-, -, h⟩ := s.sample_cases <;> rw [h]
  · exact hraise hs
  · exact hmillis hs
  · exact htick _ _ (htick _ _ (htick _ _ (htick _ _ (htick _ _ (htLast _ _ (hmillis hs))))))

/-- A tick of button `b` steps its record and no other. -/
theorem State.tickButton_btn (s : State) (b : Fin 5) :
    ∃ l, (s.tickButton b).btn = s.btn.set b (stepButton (s.btn.get b) l) :=
  ⟨(s.drawRead (s.cfg.buttonPin.get b)).1, by simp [State.tickButton]⟩

/-- What every record satisfies and the automaton keeps, every record satisfies after a sample. -/
theorem State.sample_records {p : Fin 5 → Button → Prop} (hstep : ∀ c r l, p c r → p c (stepButton r l)) {s : State}
    (hs : ∀ c, p c (s.btn.get c)) : ∀ c, p c (s.sample.btn.get c) := by
  refine State.sample_induction (I := fun u => ∀ c, p c (u.btn.get c)) hs id (by simp) (fun _ _ => id)
    fun u b hu c => ?_
  obtain ⟨l, hl⟩ := u.tickButton_btn b
  by_cases hcb : c = b
  · subst hcb
    simpa [hl] using hstep c _ l (hu c)
  · simpa [hl, Buttons.get_set_other hcb] using hu c

theorem stepButton_keeps_latch {r : Button} (h : r.latched = true) (l : Level) : (stepButton r l).latched = true := by
  unfold stepButton
  split_ifs <;> simp [h]

theorem sample_keeps_latch {s : State} {c : Fin 5} (h : (s.btn.get c).latched = true) :
    (s.sample.btn.get c).latched = true :=
  State.sample_records (p := fun b r => b = c → r.latched = true)
    (fun _ _ l hr hbc => stepButton_keeps_latch (hr hbc) l) (fun _ hbc => hbc ▸ h) c rfl

/-- Settles O43: only three effects touch the records, and the automaton of a sample never clears a latch. -/
theorem onlySamplingWritesTheRecords : Obligations.OnlySamplingWritesTheRecords := by
  refine ⟨fun i s t h hi => ?_, fun s t c h hlatch => ?_, fun s t b c h hl hlatch => ?_⟩
  · obtain ⟨ht, hb⟩ | ⟨rfl, -⟩ | ⟨hquery, ht, hrecords⟩ := (exec_effect h).records
    · exact ⟨ht, (sameSamples_of_btn_eq ht hb).2, fun _ _ => hb⟩
    · exact absurd rfl hi
    · refine ⟨ht, hrecords, fun htake hwait => ?_⟩
      simp [htake, hwait] at hquery
  · obtain ⟨-, hb⟩ | ⟨-, rfl⟩ | ⟨hquery, -⟩ := (exec_effect h).records
    · rwa [hb]
    · exact sample_keeps_latch hlatch
    · exact absurd hquery (by decide)
  · obtain ⟨-, ⟨hlow, -⟩ | ⟨-, rfl⟩⟩ := waitIter_next h
    · simp [hl] at hlow
    · exact sample_keeps_latch hlatch

/-! #### Ranges of the records -/

theorem Button.inRange_iff (r : Button) :
    r.inRange = true ↔ r.run.toNat ≤ 11 ∧ (r.last = .low → 1 ≤ r.rep.toNat ∧ r.rep.toNat ≤ 100) ∧
      (r.last = .high → r.rep.toNat = 0 ∨ r.rep.toNat = 100) := by
  obtain ⟨last, run, rep, latched⟩ := r
  cases last <;> simp [Button.inRange]

/-- The four arms of the automaton keep the ranges (44_buttons.md R211 to R215). -/
theorem stepButton_inRange {r : Button} (h : r.inRange = true) (l : Level) : (stepButton r l).inRange = true := by
  rw [Button.inRange_iff] at h ⊢
  obtain ⟨hrun, hlow, hhigh⟩ := h
  unfold stepButton
  split_ifs with hl hpressed hrep haccept hlatch
  · subst hl
    simp [hpressed, REPEAT_STEADY]
  · subst hl
    have hpos : r.rep - 1#8 ≠ 0#8 := hrep
    obtain ⟨h1, h100⟩ := hlow hpressed
    simp only [hpressed, reduceCtorEq, false_implies, and_true, forall_const]
    bv_omega
  · exact ⟨Nat.zero_le _, hlow, hhigh⟩
  · simp [REPEAT_INITIAL]
  · simp [REPEAT_INITIAL]
  · refine ⟨?_, hlow, hhigh⟩
    simp only [DEBOUNCE_THRESHOLD] at haccept
    bv_omega

theorem State.ButtonsInRange.sample {s : State} (h : s.ButtonsInRange) : s.sample.ButtonsInRange :=
  State.sample_records (p := fun _ r => r.inRange = true) (fun _ _ l hr => stepButton_inRange hr l) h

theorem Button.inRange_congr {r r' : Button} (hlast : r'.last = r.last) (hrun : r'.run = r.run) (hrep : r'.rep = r.rep) :
    r'.inRange = r.inRange := by
  simp only [Button.inRange, hlast, hrun, hrep]

/-- The ranges do not speak of the latch. -/
theorem State.ButtonsInRange.of_sameSamples {s t : State} (h : s.ButtonsInRange) (hst : SameSamples s t) :
    t.ButtonsInRange := fun b => by
  obtain ⟨hlast, hrun, hrep⟩ := hst.2 b
  exact (Button.inRange_congr hlast hrun hrep).trans (h b)

/-- Settles O54: the automaton keeps the ranges, and whatever else writes a record writes its latch. -/
theorem stepKeepsButtonsInRange : Obligations.StepKeepsButtonsInRange := by
  intro s t hs h
  obtain ⟨-, taken, rest, c, m, -, rfl⟩ | ⟨-, -, hmove⟩ := step_move h
  · exact hs
  · cases hmove with
    | ran hb hi he =>
      obtain ⟨ht, hbtn⟩ | ⟨-, rfl⟩ | ⟨-, hsame⟩ := he.records
      · exact hs.of_sameSamples (sameSamples_of_btn_eq ht hbtn)
      · exact State.ButtonsInRange.sample hs
      · exact hs.of_sameSamples hsame
    | illegal _ => exact hs
    | textTaken _ => exact hs
    | waitEnded _ _ => exact hs.of_sameSamples (sameSamples_finishWait _ _)
    | waitSampled _ => exact hs.sample

end Sys2Proof.Machine
end

/-! ### The control state and the flag words -/

section
namespace Sys2Proof.Machine

open Sys2Proof

/-- What every operation but begin does to the control state: the phase stands, the bus is as it was or released, the flag
words keep their reserved bits, and only a READY block waits. -/
theorem State.ControlInv.of_frame {s t : State} (hs : s.ControlInv)
    (hconfig : t.cfg.valid = true ∨ t.fault = some .badConfig)
    (hphase : t.phase = s.phase := by simp)
    (hbus : t.busMode = s.busMode ∨ t.busMode = .input := by simp)
    (hwait : t.waitBtn ≠ none → s.phase = .ready := by assumption)
    (hdf : t.displayfunction = s.displayfunction := by simp)
    (hdc : s.displaycontrol &&& 0xF8#8 = 0#8 → t.displaycontrol &&& 0xF8#8 = 0#8 := by simp)
    (hdm : s.displaymode &&& 0xFC#8 = 0#8 → t.displaymode &&& 0xFC#8 = 0#8 := by simp)
    (hlines : t.numlines = s.numlines := by simp) : t.ControlInv where
  phaseSettled := by rw [hphase]; exact hs.phaseSettled
  busInput hr := hbus.elim (fun h => h.trans (hs.busInput (hphase ▸ hr))) id
  waitReady hw := hphase.trans (hwait hw)
  configChecked := hconfig
  functionWord hr := by rw [hdf]; exact hs.functionWord (hphase ▸ hr)
  controlWord hr := hdc (hs.controlWord (hphase ▸ hr))
  modeWord hr := hdm (hs.modeWord (hphase ▸ hr))
  someLine hr := by rw [hlines]; exact hs.someLine (hphase ▸ hr)

/-- The words begin can form (42_init.md R146). -/
theorem functionFlags_cases (lines fontSize : Byte) :
    functionFlags lines fontSize = 0x00#8 ∨ functionFlags lines fontSize = 0x04#8 ∨
      functionFlags lines fontSize = 0x08#8 := by
  unfold functionFlags
  split_ifs with htwo hfont
  · simp [hfont.2] at htwo
  · exact .inr (.inr rfl)
  · exact .inr (.inl rfl)
  · exact .inl rfl

/-- begin leaves a sound control state (42_init.md R140, R146, R148). -/
theorem controlInv_beginBody {s : State} {columns lines fontSize : Byte} (hv : s.cfg.valid = true) (hl : lines ≠ 0#8) :
    ((s.beginBody columns lines fontSize).returning .none).ControlInv where
  phaseSettled := by simp
  busInput _ := by simp
  waitReady _ := by simp
  configChecked := .inl (by simpa using hv)
  functionWord _ := by simpa using functionFlags_cases lines fontSize
  controlWord _ := by simp [FLAG_D]
  modeWord _ := by simp [FLAG_ID]
  someLine _ := by simpa using hl

theorem Effect.controlInv {i : Instr} {s t : State} (h : Effect i s t) (hs : s.ControlInv) (hv : s.cfg.valid = true) :
    t.ControlInv := by
  have hconfig : t.cfg.valid = true ∨ t.fault = some .badConfig := .inl (by rw [h.cfg]; exact hv)
  have hwait := hs.waitReady
  cases h with
  | begun _ _ hl => exact controlInv_beginBody hv hl
  | controlToggled _ _ hw => exact hs.of_frame hconfig (hdc := hw)
  | entryToggled _ _ hw => exact hs.of_frame hconfig (hdm := hw)
  | waitEntered hr => exact hs.of_frame hconfig (hwait := fun _ => hr.2)
  | _ => exact hs.of_frame hconfig (hwait := by simpa using hwait)

/-- A block without a fault has valid pins (60_exceptions.md R247). -/
theorem State.ControlInv.valid {s : State} (hs : s.ControlInv) (hf : s.fault = none) : s.cfg.valid = true :=
  hs.configChecked.resolve_right (by simp [hf])

/-- Settles O55: every move of the block is begin or keeps the frame of `State.ControlInv.of_frame`, and a block that moves has
no fault, so its pins are valid. -/
theorem stepKeepsControlSound : Obligations.StepKeepsControlSound := by
  intro s t hs h
  have hwait := hs.waitReady
  obtain ⟨-, taken, rest, c, m, -, rfl⟩ | ⟨-, hf, hmove⟩ := step_move h
  · exact hs.of_frame hs.configChecked
  · have hconfig : t.cfg.valid = true ∨ t.fault = some .badConfig := .inl (by rw [hmove.cfg]; exact hs.valid hf)
    cases hmove with
    | ran _ _ he => exact he.controlInv (hs.of_frame hs.configChecked) (hs.valid hf)
    | waitEnded _ _ => exact hs.of_frame hconfig (hwait := by simp)
    | _ => exact hs.of_frame hconfig (hwait := by simpa using hwait)

end Sys2Proof.Machine
end

/-! ### What a step appends to the trace, and what that does to the pins and the wire -/

section
namespace Sys2Proof.Machine

open Sys2Proof

/-- `t` has the trace, pins and wire of `s` after emitting `es` (00_scope.md R11, R14). -/
structure Emitted (s t : State) (es : List Event) : Prop where
  cfg : t.cfg = s.cfg
  trace : t.trace = s.trace ++ es
  pins : t.pins = pinsAfter s.pins es
  wire : t.wire = s.wire ++ wireAfter s.cfg s.trace.length s.pins es

theorem emitted_emit (s : State) (es : List Event) : Emitted s (s.emit es) es := ⟨rfl, rfl, rfl, rfl⟩

theorem emitted_nil {s t : State} (hcfg : t.cfg = s.cfg := by simp) (htrace : t.trace = s.trace := by simp)
    (hpins : t.pins = s.pins := by simp) (hwire : t.wire = s.wire := by simp) : Emitted s t [] :=
  ⟨hcfg, by simp [htrace], hpins, by simp [hwire, wireAfter]⟩

theorem emitted_refl (s : State) : Emitted s s [] := emitted_nil rfl rfl rfl rfl

theorem Emitted.trans {s t u : State} {es fs : List Event} (h : Emitted s t es) (h' : Emitted t u fs) :
    Emitted s u (es ++ fs) where
  cfg := h'.cfg.trans h.cfg
  trace := by rw [h'.trace, h.trace, List.append_assoc]
  pins := by rw [h'.pins, h.pins, pinsAfter_append]
  wire := by rw [h'.wire, h.wire, h.cfg, h.trace, h.pins, wireAfter_append, List.length_append, List.append_assoc]

/-- Writing fields of the second state that are neither parameters, trace, pins nor wire. -/
theorem Emitted.congr_right {s t t' : State} {es : List Event} (h : Emitted s t es) (hcfg : t'.cfg = t.cfg := by rfl)
    (htrace : t'.trace = t.trace := by rfl) (hpins : t'.pins = t.pins := by rfl) (hwire : t'.wire = t.wire := by rfl) :
    Emitted s t' es :=
  ⟨hcfg.trans h.cfg, htrace.trans h.trace, hpins.trans h.pins, hwire.trans h.wire⟩

/-- The same for the first state. -/
theorem Emitted.congr_left {s s' t : State} {es : List Event} (h : Emitted s t es) (hcfg : s.cfg = s'.cfg := by rfl)
    (htrace : s.trace = s'.trace := by rfl) (hpins : s.pins = s'.pins := by rfl) (hwire : s.wire = s'.wire := by rfl) :
    Emitted s' t es := by
  obtain ⟨h1, h2, h3, h4⟩ := h
  exact ⟨by rw [h1, hcfg], by rw [h2, htrace], by rw [h3, hpins], by rw [h4, hwire, hcfg, htrace, hpins]⟩

theorem emitted_drawRead (s : State) (p : PinId) : Emitted s (s.drawRead p).2 [.read p (s.drawRead p).1] := by
  obtain ⟨htrace, hpins, hwire, -⟩ := s.drawRead_spec p
  exact ⟨by simp, htrace, hpins, by simp [hwire, wireAfter, wireOfEvent]⟩

theorem emitted_drawMillis (s : State) : Emitted s s.drawMillis.2 [.millis s.drawMillis.1] := by
  obtain ⟨htrace, hpins, hwire, -⟩ := s.drawMillis_spec
  exact ⟨by simp, htrace, hpins, by simp [hwire, wireAfter, wireOfEvent]⟩

theorem State.tickButton_wire (s : State) (b : Fin 5) : (s.tickButton b).wire = s.wire :=
  (s.drawRead_spec _).2.2.1

theorem State.sample_wire (s : State) : s.sample.wire = s.wire :=
  State.sample_induction (I := fun u => u.wire = s.wire) rfl id (fun _ => s.drawMillis_spec.2.2.1) (fun _ _ => id)
    fun u b hu => (u.tickButton_wire b).trans hu

theorem exists_emitted_sample (s : State) : ∃ es, Emitted s s.sample es :=
  State.sample_induction (I := fun u => ∃ es, Emitted s u es) ⟨[], emitted_nil⟩ (fun _ => ⟨[], emitted_nil⟩)
    (fun _ => ⟨_, emitted_drawMillis s⟩) (fun _ _ ⟨es, h⟩ => ⟨es, h.congr_right⟩)
    fun u b ⟨es, h⟩ => ⟨_, (h.trans (emitted_drawRead u (u.cfg.buttonPin.get b))).congr_right⟩

/-! #### Transactions and begin -/

/-- The events of a transaction (40_bus_direction.md R103). -/
def transactionEvents (P : Params) (body : List Event) : List Event := claimEvents P ++ body ++ releaseEvents P

theorem emitted_claim (s : State) : Emitted s s.claim (claimEvents s.cfg) := ⟨rfl, rfl, rfl, rfl⟩

theorem emitted_release (s : State) : Emitted s s.release (releaseEvents s.cfg) := ⟨rfl, rfl, rfl, rfl⟩

theorem emitted_transaction (s : State) (body : List Event) :
    Emitted s (s.transaction body) (transactionEvents s.cfg body) :=
  ⟨s.transaction_cfg body, s.transaction_trace body, s.transaction_pins body, s.transaction_wire body⟩

theorem Emitted.transaction {s t : State} {es : List Event} (h : Emitted s t es) (body : List Event) :
    Emitted s (t.transaction body) (es ++ transactionEvents s.cfg body) := by
  rw [← h.cfg]
  exact h.trans (emitted_transaction t body)

/-- The same where a flag word is written first (43_display_ops.md R179). -/
theorem Emitted.controlTransaction {s t : State} {es : List Event} (h : Emitted s t es) (w : Byte) (body : List Event) :
    Emitted s ({ t with displaycontrol := w }.transaction body) (es ++ transactionEvents s.cfg body) :=
  (h.congr_right (t' := { t with displaycontrol := w })).transaction body

theorem Emitted.entryTransaction {s t : State} {es : List Event} (h : Emitted s t es) (w : Byte) (body : List Event) :
    Emitted s ({ t with displaymode := w }.transaction body) (es ++ transactionEvents s.cfg body) :=
  (h.congr_right (t' := { t with displaymode := w })).transaction body

theorem Emitted.returning {s t : State} {es : List Event} (h : Emitted s t es) (r : Result) :
    Emitted s (t.returning r) es := ⟨h.cfg, h.trace, h.pins, h.wire⟩

theorem Emitted.settled {s t : State} {es : List Event} (h : Emitted s t es) (p : Phase) :
    Emitted s { t with phase := p } es := ⟨h.cfg, h.trace, h.pins, h.wire⟩

/-- begin's steps up to its control lines: the pin modes and the power-up wait (42_init.md R141, R142). -/
def powerUpModes (P : Params) : List Event := setupPins P ++ claimEvents P ++ [Event.delay T_POWERUP_US]

/-- And the control lines to idle, EN out of UNDEF (42_init.md R143). -/
def powerUpEvents (P : Params) : List Event :=
  powerUpModes P ++ [Event.drive P.rsPin (elec P false), Event.drive P.enPin (elec P false)]

/-- The handshake 3, 3, 3, 2 with its waits (42_init.md R144, R145). -/
def handshakeNibbles (P : Params) : List Event :=
  write4 P 0x3#4 ++ [Event.delay T_INIT_0_US] ++ write4 P 0x3#4 ++ [Event.delay T_INIT_1_US] ++ write4 P 0x3#4 ++
    [Event.delay T_INIT_2_US] ++ write4 P 0x2#4

/-- The bytes of a default glyph (42_init.md R147). -/
def defaultGlyphBytes (P : Params) (k : Fin 8) : List (Rs × Byte) :=
  glyphBytes (BitVec.ofNat 8 k) ([0, 1, 2, 3, 4, 5, 6, 7].map (P.glyphByte k))

/-- The glyph uploads of begin's step 6 (42_init.md R147). -/
def glyphEvents (P : Params) (ks : List (Fin 8)) : List Event :=
  ks.flatMap (fun k => transactionEvents P (sendAll P (defaultGlyphBytes P k)))

/-- The three transactions of begin's step 7 (42_init.md R148). -/
def beginDisplayEvents (P : Params) : List Event :=
  transactionEvents P (cmd P (displayControlByte FLAG_D)) ++
    transactionEvents P (cmd P CMD_CLEAR ++ [Event.delay T_SLOW_CMD_US]) ++ transactionEvents P (cmd P (entryModeByte FLAG_ID))

theorem emitted_beginHandshake (s : State) :
    Emitted s s.beginHandshake
      (powerUpEvents s.cfg ++ (handshakeNibbles s.cfg ++ cmd s.cfg (functionSetByte s.displayfunction) ++
        releaseEvents s.cfg)) := by
  have h := (((emitted_emit s (setupPins s.cfg)).trans (emitted_claim _)).trans (emitted_emit _ _)).trans
    (emitted_release (((s.emit (setupPins s.cfg)).claim).emit
      (handshake s.cfg ++ cmd s.cfg (functionSetByte s.displayfunction))))
  simpa only [powerUpEvents, powerUpModes, handshakeNibbles, handshake, State.beginHandshake, State.emit_cfg,
    State.claim_cfg, List.append_assoc, List.cons_append, List.nil_append] using h

theorem emitted_uploadGlyph (s : State) (k : Fin 8) :
    Emitted s (s.uploadGlyph k) (transactionEvents s.cfg (sendAll s.cfg (defaultGlyphBytes s.cfg k))) := by
  rw [defaultGlyphBytes, ← glyphBody_eq_sendAll]
  exact emitted_transaction s _

theorem emitted_foldl_uploadGlyph (s : State) (ks : List (Fin 8)) :
    Emitted s (ks.foldl State.uploadGlyph s) (glyphEvents s.cfg ks) := by
  induction ks generalizing s with
  | nil => exact emitted_refl s
  | cons k ks ih => exact (emitted_uploadGlyph s k).trans (ih (s.uploadGlyph k))

theorem emitted_beginGlyphs (s : State) : Emitted s s.beginGlyphs (glyphEvents s.cfg [0, 1, 2, 3, 4, 5, 6, 7]) :=
  emitted_foldl_uploadGlyph s _

theorem emitted_beginDisplay (s : State) : Emitted s s.beginDisplay (beginDisplayEvents s.cfg) := by
  have h := (((emitted_refl s).controlTransaction FLAG_D (cmd s.cfg (displayControlByte FLAG_D))).transaction
    (cmd s.cfg CMD_CLEAR ++ [Event.delay T_SLOW_CMD_US])).entryTransaction FLAG_ID (cmd s.cfg (entryModeByte FLAG_ID))
  simpa only [State.beginDisplay, State.transaction_cfg, beginDisplayEvents, List.nil_append] using h

/-- Everything begin emits once its checks have passed, `df` being the function word it has formed (42_init.md R140). -/
def beginEvents (P : Params) (df : Byte) : List Event :=
  powerUpEvents P ++ (handshakeNibbles P ++ (cmd P (functionSetByte df) ++ (releaseEvents P ++
    (glyphEvents P [0, 1, 2, 3, 4, 5, 6, 7] ++ beginDisplayEvents P))))

theorem emitted_beginSteps (s : State) :
    Emitted s s.beginHandshake.beginGlyphs.beginDisplay (beginEvents s.cfg s.displayfunction) := by
  have h := ((emitted_beginHandshake s).trans (emitted_beginGlyphs _)).trans (emitted_beginDisplay _)
  simpa only [beginEvents, State.beginHandshake_cfg, State.beginGlyphs_cfg, List.append_assoc] using h

theorem emitted_beginBody (s : State) (columns lines fontSize : Byte) :
    Emitted s (s.beginBody columns lines fontSize) (beginEvents s.cfg (functionFlags lines fontSize)) := by
  have h := (emitted_beginSteps { s with
    phase := .init
    numlines := lines
    rowOffsets := defaultRowOffsets columns
    displayfunction := functionFlags lines fontSize })
  exact (h.settled .ready).congr_left (s' := s)

/-! #### Effects -/

theorem Effect.exists_emitted {i : Instr} {s t : State} (h : Effect i s t) (hi : i.isWire = false) :
    ∃ es, Emitted s t es := by
  cases h with
  | controller hwire => simp [hi] at hwire
  | begun _ _ _ => exact ⟨_, (emitted_beginBody s _ _ _).returning _⟩
  | sent _ _ => exact ⟨_, (emitted_transaction s _).returning _⟩
  | controlToggled _ _ _ => exact ⟨_, ((emitted_refl s).controlTransaction _ _).returning _⟩
  | entryToggled _ _ _ => exact ⟨_, ((emitted_refl s).entryTransaction _ _).returning _⟩
  | sampled _ => exact (exists_emitted_sample s).imp fun _ he => he.returning _
  | pinRead _ => exact ⟨_, (emitted_drawRead s _).returning _⟩
  | _ => exact ⟨[], emitted_nil⟩

theorem BlockMove.exists_emitted {s t : State} (h : BlockMove s t) : ∃ es, Emitted s t es := by
  cases h with
  | ran _ hi he =>
    obtain ⟨es, h⟩ := he.exists_emitted hi
    exact ⟨es, h.congr_left⟩
  | waitSampled _ => exact exists_emitted_sample s
  | _ => exact ⟨[], emitted_nil⟩

/-! #### The replay -/

theorem State.wireLog_eq_append {s t : State} {es : List Event} (h : Emitted s t es) (hpins : s.pins = pinsAfter [] s.trace) :
    t.wireLog = s.wireLog ++ wireAfter s.cfg s.trace.length s.pins es := by
  rw [State.wireLog, State.wireLog, h.cfg, h.trace, wireAfter_append, Nat.zero_add, hpins]

theorem State.ReplayInv.of_emitted {s t : State} {es : List Event} (hs : s.ReplayInv) (h : Emitted s t es) : t.ReplayInv where
  pinsReplay := by rw [h.pins, h.trace, pinsAfter_append, hs.pinsReplay]
  pinsCanonical := by
    rw [h.pins]
    exact PinMap.wf_pinsAfter _ _ hs.pinsCanonical
  wireSuffix := by
    obtain ⟨consumed, hlog⟩ := hs.wireSuffix
    exact ⟨consumed, by rw [State.wireLog_eq_append h hs.pinsReplay, h.wire, hlog, List.append_assoc]⟩

/-- Settles O57: the block appends the same items to both sides, the controller moves items from the pending to the
consumed. -/
theorem stepKeepsReplay : Obligations.StepKeepsReplay := by
  intro s t hs h
  obtain ⟨-, taken, rest, c, m, htaken, rfl⟩ | ⟨-, -, hmove⟩ := step_move h
  · obtain ⟨consumed, hlog⟩ := hs.wireSuffix
    exact ⟨hs.pinsReplay, hs.pinsCanonical, consumed ++ taken, by rw [List.append_assoc, ← htaken]; exact hlog⟩
  · obtain ⟨es, hes⟩ := hmove.exists_emitted
    exact hs.of_emitted hes

end Sys2Proof.Machine
end

/-! ### What an operation's events put on the wire -/

section
namespace Sys2Proof.Machine

open Sys2Proof

/-- From any pins that satisfy `Q`, `es` puts `items` on the wire and leaves pins that satisfy `Q`. -/
def Puts (P : Params) (Q : PinMap → Prop) (es : List Event) (items : List WireItem) : Prop :=
  ∀ n m, Q m → wireAfter P n m es = items ∧ Q (pinsAfter m es)

/-- EN is at its idle level (41_transmit.md R121). -/
def EnIdle (P : Params) (m : PinMap) : Prop := (PinMap.pin m P.enPin).level = some (elec P false)

/-- And RS is at the level of `rs` (30_encoding.md R73). -/
def IdleAt (P : Params) (rs : Rs) (m : PinMap) : Prop :=
  EnIdle P m ∧ (PinMap.pin m P.rsPin).level = some (elec P rs.asserted)

section Puts

variable {P : Params} {Q : PinMap → Prop}

theorem puts_nil : Puts P Q [] [] := fun _ _ hm => ⟨rfl, hm⟩

theorem Puts.append {es fs : List Event} {a b : List WireItem} (h : Puts P Q es a) (h' : Puts P Q fs b) :
    Puts P Q (es ++ fs) (a ++ b) := fun n m hm => by
  obtain ⟨ha, hes⟩ := h n m hm
  obtain ⟨hb, hfs⟩ := h' (n + es.length) _ hes
  exact ⟨by rw [wireAfter_append, ha, hb], by rw [pinsAfter_append]; exact hfs⟩

theorem puts_flatMap {α : Type} {f : α → List Event} {g : α → List WireItem} (h : ∀ x, Puts P Q (f x) (g x))
    (xs : List α) : Puts P Q (xs.flatMap f) (xs.flatMap g) := by
  induction xs with
  | nil => exact puts_nil
  | cons x xs ih => exact (h x).append ih

theorem puts_delay (us : Nat) : Puts P Q [.delay us] [] := fun _ _ hm => ⟨rfl, hm⟩

theorem puts_delays (pause : List Nat) : Puts P Q (pause.map .delay) [] := by
  induction pause with
  | nil => exact puts_nil
  | cons us pause ih => exact (puts_delay us).append ih

/-- Setting the mode of another pin than EN. -/
theorem puts_setMode {p : PinId} (hp : P.enPin ≠ p) (d : PinDir) : Puts P (EnIdle P) [.setMode p d] [] :=
  fun _ m hm => ⟨rfl, by simpa [EnIdle, pin_applyEvent, hp] using hm⟩

variable (D : PinsApart P)
include D

theorem puts_claimEvents : Puts P (EnIdle P) (claimEvents P) [] :=
  (puts_setMode D.en_d0 _).append ((puts_setMode D.en_d1 _).append ((puts_setMode D.en_d2 _).append
    ((puts_setMode D.en_d3 _).append (puts_delay _))))

theorem puts_releaseEvents : Puts P (EnIdle P) (releaseEvents P) [] :=
  (puts_setMode D.en_d0 _).append ((puts_setMode D.en_d1 _).append ((puts_setMode D.en_d2 _).append
    ((puts_setMode D.en_d3 _).append (puts_delay _))))

theorem puts_transactionEvents {body : List Event} {items : List WireItem} (h : Puts P (EnIdle P) body items) :
    Puts P (EnIdle P) (transactionEvents P body) items := by
  simpa [transactionEvents] using ((puts_claimEvents D).append h).append (puts_releaseEvents D)

variable (hx : P.wireExact = true)
include hx

theorem puts_write4 (rs : Rs) (v : Nibble) : Puts P (IdleAt P rs) (write4 P v) [.transfer rs v] :=
  fun n m hm => write4_wire D hx n m v rs hm.1 hm.2

/-- A byte is sent as its two nibbles, from EN idle to EN idle (41_transmit.md R122). -/
theorem puts_send (v : Byte) (rs : Rs) : Puts P (EnIdle P) (send P v rs) (byteTransfers rs v) := fun n m hm => by
  have hidle : IdleAt P rs (applyEvent m (.drive P.rsPin (elec P rs.asserted))) := by
    constructor
    · simpa [EnIdle, pin_applyEvent, D.rs_en.symm] using hm
    · simp [pin_applyEvent]
  obtain ⟨hitems, hen, -⟩ :=
    ((puts_write4 D hx rs (highNibble v)).append (puts_write4 D hx rs (lowNibble v))) (n + 1) _ hidle
  rw [send, pinsAfter_cons]
  exact ⟨by simp only [wireAfter, hitems, wireOfEvent, D.rs_en, false_and, if_false]; rfl, hen⟩

/-- The transfers of these bytes (20_memory.md R53). -/
theorem puts_sendAll (bytes : List (Rs × Byte)) :
    Puts P (EnIdle P) (sendAll P bytes) (bytes.flatMap (fun b => byteTransfers b.1 b.2)) :=
  puts_flatMap (f := fun b : Rs × Byte => send P b.2 b.1) (fun b => puts_send D hx b.2 b.1) bytes

end Puts

/-! #### begin -/

/-- An event that drives nothing and reads nothing. -/
def Event.setsMode : Event → Bool
  | .setMode _ _ | .delay _ => true
  | .drive _ _ | .read _ _ | .millis _ => false

theorem wireAfter_of_setsMode {P : Params} {es : List Event} (h : es.all Event.setsMode = true) (n : Nat) (m : PinMap) :
    wireAfter P n m es = [] := by
  induction es generalizing n m with
  | nil => rfl
  | cons e es ih =>
    simp only [List.all_cons, Bool.and_eq_true] at h
    rw [wireAfter, ih h.2]
    cases e with
    | setMode _ _ | delay _ => rfl
    | _ => cases h.1

/-- A pin driven at no level stays so while only modes are set. -/
theorem level_none_of_setsMode {es : List Event} (h : es.all Event.setsMode = true) {m : PinMap} {p : PinId}
    (hm : (PinMap.pin m p).level = none) : (PinMap.pin (pinsAfter m es) p).level = none := by
  induction es generalizing m with
  | nil => exact hm
  | cons e es ih =>
    simp only [List.all_cons, Bool.and_eq_true] at h
    refine ih h.2 ?_
    cases e with
    | setMode q d =>
      by_cases hq : p = q
      · simp [pin_applyEvent, hq]
      · simpa [pin_applyEvent, hq] using hm
    | delay _ => exact hm
    | _ => cases h.1

theorem powerUpModes_setMode (P : Params) : (powerUpModes P).all Event.setsMode = true := by
  simp [powerUpModes, setupPins, claimEvents, Event.setsMode]

theorem level_none_powerUpModes (P : Params) (m : PinMap) :
    (PinMap.pin (pinsAfter m (powerUpModes P)) P.enPin).level = none := by
  have h := powerUpModes_setMode P
  simp only [powerUpModes, setupPins, List.cons_append, pinsAfter_cons, List.all_cons, Bool.and_eq_true] at h ⊢
  exact level_none_of_setsMode h.2.2 (by simp [pin_applyEvent])

/-- Whatever the pins were, after `setup_pins` and the claim EN is driven at no level, and driving it idle is the power-up
item (42_init.md R141 to R143). -/
theorem wireAfter_powerUpEvents {P : Params} (D : PinsApart P) (n : Nat) (m : PinMap) :
    ∃ event, wireAfter P n m (powerUpEvents P) = [.powerUp .cmd event] ∧
      IdleAt P .cmd (pinsAfter m (powerUpEvents P)) := by
  have hmodes := wireAfter_of_setsMode (P := P) (powerUpModes_setMode P) n m
  have hnone := level_none_powerUpModes P m
  have hne := (elec_true_ne_false P).symm
  refine ⟨n + (powerUpModes P).length + 1, ?_, ?_⟩
  · simp [powerUpEvents, wireAfter_append, hmodes, wireAfter, wireOfEvent, rsOnWire, pin_applyEvent, D.rs_en, D.rs_en.symm,
      hnone, hne]
  · simp [powerUpEvents, IdleAt, EnIdle, pin_applyEvent, D.rs_en, Rs.asserted]

/-- The handshake's four lone nibbles (42_init.md R144, R145). -/
theorem puts_handshakeNibbles {P : Params} (D : PinsApart P) (hx : P.wireExact = true) :
    Puts P (IdleAt P .cmd) (handshakeNibbles P)
      [.transfer .cmd 0x3#4, .transfer .cmd 0x3#4, .transfer .cmd 0x3#4, .transfer .cmd 0x2#4] :=
  have nibble := puts_write4 D hx .cmd
  ((((((nibble 0x3#4).append (puts_delay _)).append (nibble 0x3#4)).append (puts_delay _)).append (nibble 0x3#4)).append
    (puts_delay _)).append (nibble 0x2#4)

/-- The bytes begin sends after its handshake (42_init.md R146 to R148). -/
def beginBytes (P : Params) (df : Byte) : List (Rs × Byte) :=
  (.cmd, functionSetByte df) :: (([0, 1, 2, 3, 4, 5, 6, 7] : List (Fin 8)).flatMap (defaultGlyphBytes P) ++
    [(.cmd, displayControlByte FLAG_D), (.cmd, CMD_CLEAR), (.cmd, entryModeByte FLAG_ID)])

section

variable {P : Params} (D : PinsApart P) (hx : P.wireExact = true)
include D hx

theorem puts_glyphEvents (ks : List (Fin 8)) :
    Puts P (EnIdle P) (glyphEvents P ks) ((ks.flatMap (defaultGlyphBytes P)).flatMap (fun b => byteTransfers b.1 b.2)) := by
  rw [List.flatMap_assoc]
  exact puts_flatMap (fun k => puts_transactionEvents D (puts_sendAll D hx (defaultGlyphBytes P k))) ks

theorem puts_beginDisplayEvents :
    Puts P (EnIdle P) (beginDisplayEvents P)
      (byteTransfers .cmd (displayControlByte FLAG_D) ++ (byteTransfers .cmd CMD_CLEAR ++ []) ++
        byteTransfers .cmd (entryModeByte FLAG_ID)) :=
  ((puts_transactionEvents D (puts_send D hx _ _)).append
    (puts_transactionEvents D ((puts_send D hx _ _).append (puts_delay _)))).append
    (puts_transactionEvents D (puts_send D hx _ _))

/-- begin's whole wire: the power-up item and the handshake, then its bytes (42_init.md R140). -/
theorem wireAfter_beginEvents (n : Nat) (m : PinMap) (df : Byte) :
    ∃ event, wireAfter P n m (beginEvents P df) =
      handshakeItems event ++ (beginBytes P df).flatMap (fun b => byteTransfers b.1 b.2) := by
  obtain ⟨event, hpower, hidle⟩ := wireAfter_powerUpEvents D n m
  obtain ⟨hnibbles, hen, -⟩ := puts_handshakeNibbles D hx (n + (powerUpEvents P).length) _ hidle
  have hbytes := ((puts_send D hx (functionSetByte df) .cmd).append ((puts_releaseEvents D).append
    ((puts_glyphEvents D hx [0, 1, 2, 3, 4, 5, 6, 7]).append (puts_beginDisplayEvents D hx))))
    (n + (powerUpEvents P).length + (handshakeNibbles P).length) _ hen
  refine ⟨event, ?_⟩
  rw [beginEvents, wireAfter_append, wireAfter_append, hpower, hnibbles, cmd, hbytes.1]
  simp [handshakeItems, beginBytes]

end

end Sys2Proof.Machine
end

/-! ### What the controller makes of its wire -/

section
namespace Sys2Proof.Machine

open Sys2Proof

/-- Executing all of `w`, controller `c` becomes `c'`: `State.absorb`, as a relation on the controller alone. -/
inductive Absorbs : Lcd → List WireItem → Lcd → Prop where
  | done (c : Lcd) : Absorbs c [] c
  | skip {c c' : Lcd} {w rest : List WireItem} (hw : nextWire c.dl w = .dropped rest) (h : Absorbs c rest c') : Absorbs c w c'
  | run {c c' : Lcd} {w rest : List WireItem} {i : Instr} {f : Lcd → Lcd} (hw : nextWire c.dl w = .run i rest)
      (hf : ControllerOp i f) (h : Absorbs (f c) rest c') : Absorbs c w c'

theorem absorbs_of_absorb {s t : State} {w : List WireItem} (h : s.absorb w = some t) : Absorbs s.lcd w t.lcd := by
  induction hn : w.length using Nat.strong_induction_on generalizing s w with
  | _ n ih =>
    subst hn
    obtain ⟨rfl, rfl⟩ | ⟨rest, hw, hrest⟩ | ⟨i, rest, u, hw, hu, hrest⟩ := absorb_cases h
    · exact .done _
    · obtain ⟨rs, n, rfl⟩ := nextWire_dropped hw
      exact .skip hw (ih rest.length (by simp) hrest rfl)
    · obtain ⟨f, hf⟩ := exists_controllerOp_of_isWire (nextWire_run hw).1
      cases (hf s).symm.trans hu
      exact .run hw hf (ih rest.length (length_lt_of_nextWire_run hw) hrest rfl)

theorem absorb_of_dropped {s : State} {w rest : List WireItem} (h : nextWire s.lcd.dl w = .dropped rest) :
    s.absorb w = s.absorb rest := by
  obtain ⟨rs, n, rfl⟩ := nextWire_dropped h
  rw [State.absorb]

/-- What the controller executes: a lone nibble in 8-bit mode, a pair at one RS level in 4-bit mode (20_memory.md R55). -/
theorem nextWire_run_cases {dl : Bool} {w rest : List WireItem} {i : Instr} (h : nextWire dl w = .run i rest) :
    (dl = true ∧ ∃ rs n, w = .transfer rs n :: rest ∧ decodeWireNibble rs n = some i) ∨
    (dl = false ∧ ∃ rs n n', w = .transfer rs n :: .transfer rs n' :: rest ∧ decodeWireByte rs (n ++ n') = some i) := by
  unfold nextWire at h
  split at h
  · cases h
  · cases h
  · split at h
    · rename_i hdl
      split at h <;> cases h
      exact .inl ⟨hdl, _, _, rfl, ‹_›⟩
    · rename_i hdl
      split at h
      · cases h
      · cases h
      · split at h
        · rename_i hrs
          subst hrs
          split at h <;> cases h
          exact .inr ⟨by simpa using hdl, _, _, _, rfl, ‹_›⟩
        · cases h

theorem absorb_of_run {s u : State} {w rest : List WireItem} {i : Instr} (h : nextWire s.lcd.dl w = .run i rest)
    (hu : exec i s = .next u) : s.absorb w = u.absorb rest := by
  obtain ⟨hdl, rs, n, rfl, hi⟩ | ⟨hdl, rs, n, n', rfl, hi⟩ := nextWire_run_cases h
  all_goals
    conv_lhs => unfold State.absorb
    simp [hdl, hi, hu]

theorem exists_absorb_of_absorbs {c c' : Lcd} {w : List WireItem} (h : Absorbs c w c') {s : State} (hs : s.lcd = c) :
    ∃ t, s.absorb w = some t ∧ t.lcd = c' := by
  induction h generalizing s with
  | done c => exact ⟨s, rfl, hs⟩
  | skip hw _ ih =>
    subst hs
    rw [absorb_of_dropped hw]
    exact ih rfl
  | run hw hf _ ih =>
    subst hs
    rw [absorb_of_run hw (hf s)]
    exact ih rfl

/-- `Absorbs` is `State.absorb`. -/
theorem absorbs_iff {s : State} {w : List WireItem} {c : Lcd} :
    Absorbs s.lcd w c ↔ ∃ t, s.absorb w = some t ∧ t.lcd = c :=
  ⟨fun h => exists_absorb_of_absorbs h rfl, fun ⟨_, h, hc⟩ => hc ▸ absorbs_of_absorb h⟩

/-- What the controller executes first does not depend on what comes later. -/
theorem nextWire_append_of_run {dl : Bool} {w rest : List WireItem} {i : Instr} (h : nextWire dl w = .run i rest)
    (v : List WireItem) : nextWire dl (w ++ v) = .run i (rest ++ v) := by
  obtain ⟨rfl, rs, n, rfl, hi⟩ | ⟨rfl, rs, n, n', rfl, hi⟩ := nextWire_run_cases h <;> simp [nextWire, hi]

theorem Absorbs.append {c c' c'' : Lcd} {w v : List WireItem} (h : Absorbs c w c') (h' : Absorbs c' v c'') :
    Absorbs c (w ++ v) c'' := by
  induction h with
  | done _ => exact h'
  | skip hw _ ih =>
    obtain ⟨rs, n, rfl⟩ := nextWire_dropped hw
    exact .skip rfl (ih h')
  | run hw hf _ ih => exact .run (nextWire_append_of_run hw v) hf (ih h')

/-- A whole byte in 4-bit mode is one command or data byte (20_memory.md R55). -/
theorem absorbs_byte {c : Lcd} (hdl : c.dl = false) {rs : Rs} {v : Byte} {i : Instr} {f : Lcd → Lcd}
    (hi : decodeWireByte rs v = some i) (hf : ControllerOp i f) : Absorbs c (byteTransfers rs v) (f c) := by
  refine .run (i := i) (rest := []) ?_ hf (.done _)
  have hv : v.extractLsb' 4 4 ++ v.extractLsb' 0 4 = v := BitVec.extractLsb'_append_extractLsb' (w := 4) (len := 4)
  simp [nextWire, byteTransfers, hdl, hv, hi]

/-! #### The flags -/

/-- The registers of the controller that R35 ties to `displayfunction`, `displaycontrol` and `displaymode`. -/
def Lcd.flags (c : Lcd) : (Bool × Bool × Bool) × (Bool × Bool × Bool) × Bool := ((c.dl, c.n, c.f), (c.d, c.c, c.b), c.s)

/-- DL, N and F of a function-set word (10_state.md R25). -/
def functionBits (df : Byte) : Bool × Bool × Bool := (df.getLsbD 4, df.getLsbD 3, df.getLsbD 2)

/-- D, C and B of a display-control word (10_state.md R26). -/
def controlBits (dc : Byte) : Bool × Bool × Bool := (dc.getLsbD 2, dc.getLsbD 1, dc.getLsbD 0)

/-- S of an entry-mode word (10_state.md R27). -/
def scrollBit (dm : Byte) : Bool := dm.getLsbD 0

/-- What the block's flag words say of these registers (10_state.md R35). -/
def State.flagBits (s : State) : (Bool × Bool × Bool) × (Bool × Bool × Bool) × Bool :=
  (functionBits s.displayfunction, controlBits s.displaycontrol, scrollBit s.displaymode)

/-- The shadow invariant in terms of the controller alone. -/
theorem shadowInv_iff (s : State) :
    s.ShadowInv ↔ (s.phase = .uninit → s.wire = [] ∧ s.lcd.dl = true) ∧
      (s.phase = .ready → ∃ c, Absorbs s.lcd s.wire c ∧
        c.flags = s.flagBits) := by
  simp only [absorbs_iff]
  constructor
  · rintro ⟨huntouched, hshadowed⟩
    refine ⟨huntouched, fun hr => ?_⟩
    obtain ⟨t, ht, hdl, hn, hf, hd, hc, hb, hs⟩ := hshadowed hr
    refine ⟨t.lcd, ⟨t, ht, rfl⟩, ?_⟩
    simp [Lcd.flags, State.flagBits, functionBits, controlBits, scrollBit, hdl, hn, hf, hd, hc, hb, hs]
  · rintro ⟨huntouched, hshadowed⟩
    refine ⟨huntouched, fun hr => ?_⟩
    obtain ⟨_, ⟨t, ht, rfl⟩, hflags⟩ := hshadowed hr
    exact ⟨t, ht, by simpa [Lcd.flags, State.flagBits, functionBits, controlBits, scrollBit, and_assoc] using hflags⟩

end Sys2Proof.Machine
end

/-! ### What a byte does to the controller's flags -/

section
namespace Sys2Proof.Machine

open Sys2Proof

theorem dl_eq_of_flags_eq {c c' : Lcd} (h : c'.flags = c.flags) : c'.dl = c.dl := congrArg (·.1.1) h

/-- A wire form that leaves the flags alone. -/
def KeepsFlags (i : Instr) : Prop := ∃ f, ControllerOp i f ∧ ∀ c, (f c).flags = c.flags

theorem keepsFlags_dataByte (d : Byte) : KeepsFlags (.wireDataByte d) := by
  refine ⟨fun l => l.written d, fun _ => rfl, fun c => ?_⟩
  simp only [Lcd.written]
  split <;> rfl

theorem keepsFlags_setDdramAddr (a : BitVec 7) : KeepsFlags (.wireSetDdramAddr a) :=
  ⟨fun l => { l with target := .ddram, ac := a }, fun _ => rfl, fun _ => rfl⟩

theorem keepsFlags_setCgramAddr (a : BitVec 6) : KeepsFlags (.wireSetCgramAddr a) :=
  ⟨fun l => { l with target := .cgram, ac := a.setWidth 7 }, fun _ => rfl, fun _ => rfl⟩

theorem keepsFlags_cursorShift (sh right : Bool) (x : BitVec 2) : KeepsFlags (.wireCursorShift sh right x) := by
  refine ⟨fun l => if sh then { l with shift := if right then l.shift + 1 else l.shift - 1 }
    else { l with ac := l.moved right }, fun _ => rfl, fun c => ?_⟩
  cases sh <;> rfl

theorem keepsFlags_returnHome (x : BitVec 1) : KeepsFlags (.wireReturnHome x) := ⟨Lcd.homed, fun _ => rfl, fun _ => rfl⟩

theorem keepsFlags_clearDisplay : KeepsFlags .wireClearDisplay :=
  ⟨fun l => { l.homed with ddram := Memory.fill 128 0x20#8, id := true }, fun _ => rfl, fun _ => rfl⟩

/-- A byte that carries no flag word has a meaning, and the controller keeps its flags. -/
theorem exists_keepsFlags_of_carriesNoFlagWord {rs : Rs} {v : Byte} (h : carriesNoFlagWord (rs, v) = true) :
    ∃ i, decodeWireByte rs v = some i ∧ KeepsFlags i := by
  cases rs with
  | data => exact ⟨_, rfl, keepsFlags_dataByte v⟩
  | cmd =>
    simp only [carriesNoFlagWord, bne_iff_ne, Bool.and_eq_true, beq_iff_eq, reduceCtorEq, Bool.or_eq_true, false_or] at h
    obtain ⟨⟨⟨hfunc, hctl⟩, hmode⟩, hzero⟩ := h
    simp only [decodeWireByte]
    split_ifs with h7 h6 h5 h4 h3 h2 h1 h0
    · exact ⟨_, rfl, keepsFlags_setDdramAddr _⟩
    · exact ⟨_, rfl, keepsFlags_setCgramAddr _⟩
    · refine absurd (BitVec.eq_of_getLsbD_eq fun k hk => ?_) hfunc
      interval_cases k <;> simp_all
    · exact ⟨_, rfl, keepsFlags_cursorShift _ _ _⟩
    · refine absurd (BitVec.eq_of_getLsbD_eq fun k hk => ?_) hctl
      interval_cases k <;> simp_all
    · refine absurd (BitVec.eq_of_getLsbD_eq fun k hk => ?_) hmode
      interval_cases k <;> simp_all
    · exact ⟨_, rfl, keepsFlags_returnHome _⟩
    · exact ⟨_, rfl, keepsFlags_clearDisplay⟩
    · refine absurd (BitVec.eq_of_getLsbD_eq fun k hk => ?_) hzero
      interval_cases k <;> simp_all

theorem absorbs_of_carriesNoFlagWord {c : Lcd} (hdl : c.dl = false) {bytes : List (Rs × Byte)}
    (hb : bytes.all carriesNoFlagWord = true) :
    ∃ c', Absorbs c (bytes.flatMap (fun b => byteTransfers b.1 b.2)) c' ∧ c'.flags = c.flags := by
  induction bytes generalizing c with
  | nil => exact ⟨c, .done c, rfl⟩
  | cons b bytes ih =>
    simp only [List.all_cons, Bool.and_eq_true] at hb
    obtain ⟨i, hi, f, hf, hflags⟩ := exists_keepsFlags_of_carriesNoFlagWord hb.1
    obtain ⟨c', habs, hc'⟩ := ih ((dl_eq_of_flags_eq (hflags c)).trans hdl) hb.2
    exact ⟨c', (absorbs_byte hdl hi hf).append habs, hc'.trans (hflags c)⟩

/-- A word whose bits under `mask` are clear. -/
theorem getElem_of_and_eq_zero {w mask : Byte} (h : w &&& mask = 0#8) {k : Nat} (hk : k < 8) (hmask : mask[k] = true) :
    w[k] = false := by
  have hbit := congrArg (·[k]) h
  simpa [hmask] using hbit

theorem absorbs_functionSetByte {c : Lcd} (hdl : c.dl = false) {df : Byte}
    (hdf : df = 0x00#8 ∨ df = 0x04#8 ∨ df = 0x08#8) :
    ∃ c', Absorbs c (byteTransfers .cmd (functionSetByte df)) c' ∧ c'.flags = (functionBits df, c.flags.2) := by
  refine ⟨_, absorbs_byte hdl (i := .wireFunctionSet (df.getLsbD 4) (df.getLsbD 3) (df.getLsbD 2) 0#2)
    (f := fun k => { k with dl := df.getLsbD 4, n := df.getLsbD 3, f := df.getLsbD 2 }) ?_ fun _ => rfl, rfl⟩
  obtain rfl | rfl | rfl := hdf <;> decide

theorem absorbs_displayControlByte {c : Lcd} (hdl : c.dl = false) {dc : Byte} (hdc : dc &&& 0xF8#8 = 0#8) :
    ∃ c', Absorbs c (byteTransfers .cmd (displayControlByte dc)) c' ∧
      c'.flags = (c.flags.1, controlBits dc, c.flags.2.2) := by
  refine ⟨_, absorbs_byte hdl (i := .wireDisplayControl (dc.getLsbD 2) (dc.getLsbD 1) (dc.getLsbD 0))
    (f := fun k => { k with d := dc.getLsbD 2, c := dc.getLsbD 1, b := dc.getLsbD 0 }) ?_ fun _ => rfl, rfl⟩
  have hbit {k : Nat} := getElem_of_and_eq_zero hdc (k := k)
  simp [decodeWireByte, displayControlByte, CMD_DISPCTL, hbit (k := 7), hbit (k := 6), hbit (k := 5), hbit (k := 4)]

theorem absorbs_entryModeByte {c : Lcd} (hdl : c.dl = false) {dm : Byte} (hdm : dm &&& 0xFC#8 = 0#8) :
    ∃ c', Absorbs c (byteTransfers .cmd (entryModeByte dm)) c' ∧ c'.flags = (c.flags.1, c.flags.2.1, scrollBit dm) := by
  refine ⟨_, absorbs_byte hdl (i := .wireEntryModeSet (dm.getLsbD 1) (dm.getLsbD 0))
    (f := fun k => { k with id := dm.getLsbD 1, s := dm.getLsbD 0 }) ?_ fun _ => rfl, rfl⟩
  have hbit {k : Nat} := getElem_of_and_eq_zero hdm (k := k)
  simp [decodeWireByte, entryModeByte, CMD_ENTRY, hbit (k := 7), hbit (k := 6), hbit (k := 5), hbit (k := 4),
    hbit (k := 3)]

theorem absorbs_handshakeItems {c : Lcd} (hdl : c.dl = true) (event : Nat) :
    Absorbs c (handshakeItems event) { c with dl := false } := by
  have h3 : ControllerOp .wireInitNibble3 (fun k => { k with dl := true }) := fun _ => rfl
  have h2 : ControllerOp .wireInitNibble2 (fun k => { k with dl := false }) := fun _ => rfl
  exact .skip rfl (.run (by rw [hdl]; rfl) h3 (.run rfl h3 (.run rfl h3 (.run rfl h2 (.done _)))))

theorem defaultGlyphs_carryNoFlagWord (P : Params) (ks : List (Fin 8)) :
    (ks.flatMap (defaultGlyphBytes P)).all carriesNoFlagWord = true := by
  rw [List.all_flatMap, List.all_eq_true]
  exact fun k _ => glyphBytes_carryNoFlagWord _ _

/-- begin sets all seven flags (42_init.md R146, R148). -/
theorem absorbs_beginBytes {c : Lcd} (hdl : c.dl = false) (P : Params) {df : Byte}
    (hdf : df = 0x00#8 ∨ df = 0x04#8 ∨ df = 0x08#8) :
    ∃ c', Absorbs c ((beginBytes P df).flatMap (fun b => byteTransfers b.1 b.2)) c' ∧
      c'.flags = (functionBits df, controlBits FLAG_D, scrollBit FLAG_ID) := by
  have hdf4 : df.getLsbD 4 = false := by obtain rfl | rfl | rfl := hdf <;> rfl
  have dl_of {k : Lcd} {x} (hk : k.flags = (functionBits df, x)) : k.dl = false := (congrArg (·.1.1) hk).trans hdf4
  obtain ⟨c₁, hfunc, hflags₁⟩ := absorbs_functionSetByte hdl hdf
  obtain ⟨c₂, hglyphs, hflags₂⟩ := absorbs_of_carriesNoFlagWord (dl_of hflags₁)
    (defaultGlyphs_carryNoFlagWord P [0, 1, 2, 3, 4, 5, 6, 7])
  rw [hflags₁] at hflags₂
  obtain ⟨c₃, hctl, hflags₃⟩ := absorbs_displayControlByte (dl_of hflags₂) (dc := FLAG_D) rfl
  rw [hflags₂] at hflags₃
  obtain ⟨c₄, hclear, hflags₄⟩ := absorbs_of_carriesNoFlagWord (dl_of hflags₃) (bytes := [(.cmd, CMD_CLEAR)]) rfl
  rw [hflags₃] at hflags₄
  obtain ⟨c₅, hmode, hflags₅⟩ := absorbs_entryModeByte (dl_of hflags₄) (dm := FLAG_ID) rfl
  rw [hflags₄] at hflags₅
  exact ⟨c₅, by simpa [beginBytes] using hfunc.append (hglyphs.append (hctl.append (hclear.append hmode))), hflags₅⟩

end Sys2Proof.Machine
end

/-! ### The Display State as the controller's shadow, step by step -/

section
namespace Sys2Proof.Machine

open Sys2Proof

/-! #### The last command of each family -/

theorem lastCommand_append (mask base : Byte) (xs ys : List (Rs × Byte)) :
    lastCommand mask base (xs ++ ys) = (lastCommand mask base ys).or (lastCommand mask base xs) := by
  simp only [lastCommand, List.filter_append, List.getLast?_append, Option.map_or]

/-- The last function-set, display-control and entry-mode-set commands carry these words (10_state.md R35). -/
structure LastSent (bytes : List (Rs × Byte)) (df dc dm : Byte) : Prop where
  function : lastCommand 0xE0#8 0x20#8 bytes = some (functionSetByte df)
  control : lastCommand 0xF8#8 0x08#8 bytes = some (displayControlByte dc)
  mode : lastCommand 0xFC#8 0x04#8 bytes = some (entryModeByte dm)

theorem lastCommand_singleton (mask base v : Byte) :
    lastCommand mask base [(.cmd, v)] = if v &&& mask = base then some v else none := by
  by_cases h : v &&& mask = base <;> simp [lastCommand, h]

theorem lastCommand_eq_none {mask base : Byte} {bytes : List (Rs × Byte)}
    (h : ∀ b ∈ bytes, b.1 = .cmd → b.2 &&& mask ≠ base) : lastCommand mask base bytes = none := by
  simpa [lastCommand, List.filter_eq_nil_iff] using fun rs v hb hrs => h (rs, v) hb hrs

/-- Bytes that are in none of the three families. -/
theorem lastCommand_of_carriesNoFlagWord {bytes : List (Rs × Byte)} (hb : bytes.all carriesNoFlagWord = true) :
    lastCommand 0xE0#8 0x20#8 bytes = none ∧ lastCommand 0xF8#8 0x08#8 bytes = none ∧
      lastCommand 0xFC#8 0x04#8 bytes = none := by
  have hne : ∀ b ∈ bytes, b.1 = .cmd →
      b.2 &&& 0xE0#8 ≠ 0x20#8 ∧ b.2 &&& 0xF8#8 ≠ 0x08#8 ∧ b.2 &&& 0xFC#8 ≠ 0x04#8 := by
    intro b hmem hcmd
    have hcarries := List.all_eq_true.1 hb b hmem
    simp only [carriesNoFlagWord, hcmd, Bool.or_eq_true, Bool.and_eq_true, beq_iff_eq, bne_iff_ne, reduceCtorEq,
      false_or] at hcarries
    obtain ⟨⟨⟨hfunction, hcontrol⟩, hmode⟩, -⟩ := hcarries
    exact ⟨hfunction, hcontrol, hmode⟩
  exact ⟨lastCommand_eq_none fun b hmem hcmd => (hne b hmem hcmd).1,
    lastCommand_eq_none fun b hmem hcmd => (hne b hmem hcmd).2.1,
    lastCommand_eq_none fun b hmem hcmd => (hne b hmem hcmd).2.2⟩

theorem lastCommand_displayControlByte {dc : Byte} (hdc : dc &&& 0xF8#8 = 0#8) :
    lastCommand 0xE0#8 0x20#8 [(.cmd, displayControlByte dc)] = none ∧
      lastCommand 0xF8#8 0x08#8 [(.cmd, displayControlByte dc)] = some (displayControlByte dc) ∧
      lastCommand 0xFC#8 0x04#8 [(.cmd, displayControlByte dc)] = none := by
  have h5 := getElem_of_and_eq_zero hdc (k := 5) (by omega) rfl
  have hfunction : displayControlByte dc &&& 0xE0#8 ≠ 0x20#8 := fun h => by
    simpa [displayControlByte, CMD_DISPCTL, h5] using congrArg (·[5]) h
  have hcontrol : displayControlByte dc &&& 0xF8#8 = 0x08#8 := by
    rw [displayControlByte, BitVec.and_or_distrib_right, hdc]
    rfl
  have hmode : displayControlByte dc &&& 0xFC#8 ≠ 0x04#8 := fun h => by
    simpa [displayControlByte, CMD_DISPCTL] using congrArg (·[3]) h
  simp only [lastCommand_singleton, hfunction, hcontrol, hmode, if_true, if_false, and_self]

theorem lastCommand_entryModeByte {dm : Byte} (hdm : dm &&& 0xFC#8 = 0#8) :
    lastCommand 0xE0#8 0x20#8 [(.cmd, entryModeByte dm)] = none ∧
      lastCommand 0xF8#8 0x08#8 [(.cmd, entryModeByte dm)] = none ∧
      lastCommand 0xFC#8 0x04#8 [(.cmd, entryModeByte dm)] = some (entryModeByte dm) := by
  have h5 := getElem_of_and_eq_zero hdm (k := 5) (by omega) rfl
  have h3 := getElem_of_and_eq_zero hdm (k := 3) (by omega) rfl
  have hfunction : entryModeByte dm &&& 0xE0#8 ≠ 0x20#8 := fun h => by
    simpa [entryModeByte, CMD_ENTRY, h5] using congrArg (·[5]) h
  have hcontrol : entryModeByte dm &&& 0xF8#8 ≠ 0x08#8 := fun h => by
    simpa [entryModeByte, CMD_ENTRY, h3] using congrArg (·[3]) h
  have hmode : entryModeByte dm &&& 0xFC#8 = 0x04#8 := by
    rw [entryModeByte, BitVec.and_or_distrib_right, hdm]
    rfl
  simp only [lastCommand_singleton, hfunction, hcontrol, hmode, if_true, if_false, and_self]

/-- begin sends all three words (42_init.md R146, R148). -/
theorem lastSent_beginBytes (P : Params) {df : Byte} (hdf : df = 0x00#8 ∨ df = 0x04#8 ∨ df = 0x08#8) :
    LastSent (beginBytes P df) df FLAG_D FLAG_ID := by
  obtain ⟨hfunc, -, -⟩ := lastCommand_of_carriesNoFlagWord (defaultGlyphs_carryNoFlagWord P [0, 1, 2, 3, 4, 5, 6, 7])
  rw [beginBytes, ← List.singleton_append]
  constructor
  · rw [lastCommand_append, lastCommand_append, hfunc]
    obtain rfl | rfl | rfl := hdf <;> decide
  · rw [lastCommand_append, lastCommand_append]
    rfl
  · rw [lastCommand_append, lastCommand_append]
    rfl

/-! #### What a READY block sends -/

/-- The bytes a step of a READY block sends, and what becomes of the flag words: they carry none and none changes, or one is
changed and sent (43_display_ops.md R179). -/
inductive Carries (s t : State) : List (Rs × Byte) → Prop where
  | none {bytes : List (Rs × Byte)} (hb : bytes.all carriesNoFlagWord = true)
      (hdf : t.displayfunction = s.displayfunction := by simp) (hdc : t.displaycontrol = s.displaycontrol := by simp)
      (hdm : t.displaymode = s.displaymode := by simp) : Carries s t bytes
  | control (hmask : t.displaycontrol &&& 0xF8#8 = 0#8) (hdf : t.displayfunction = s.displayfunction := by simp)
      (hdm : t.displaymode = s.displaymode := by simp) : Carries s t [(.cmd, displayControlByte t.displaycontrol)]
  | mode (hmask : t.displaymode &&& 0xFC#8 = 0#8) (hdf : t.displayfunction = s.displayfunction := by simp)
      (hdc : t.displaycontrol = s.displaycontrol := by simp) : Carries s t [(.cmd, entryModeByte t.displaymode)]

theorem Carries.absorbs {s t : State} {bytes : List (Rs × Byte)} (h : Carries s t bytes) {c : Lcd} (hdl : c.dl = false)
    (hflags : c.flags = s.flagBits) :
    ∃ c', Absorbs c (bytes.flatMap (fun b => byteTransfers b.1 b.2)) c' ∧ c'.flags = t.flagBits := by
  cases h with
  | none hb hdf hdc hdm =>
    obtain ⟨c', habs, hc'⟩ := absorbs_of_carriesNoFlagWord hdl hb
    exact ⟨c', habs, by rw [hc', hflags]; simp only [State.flagBits, hdf, hdc, hdm]⟩
  | control hmask hdf hdm =>
    obtain ⟨c', habs, hc'⟩ := absorbs_displayControlByte hdl hmask
    exact ⟨c', by simpa using habs, by rw [hc', hflags]; simp only [State.flagBits, hdf, hdm]⟩
  | mode hmask hdf hdc =>
    obtain ⟨c', habs, hc'⟩ := absorbs_entryModeByte hdl hmask
    exact ⟨c', by simpa using habs, by rw [hc', hflags]; simp only [State.flagBits, hdf, hdc]⟩

theorem Carries.lastSent {s t : State} {bytes : List (Rs × Byte)} (h : Carries s t bytes) {before : List (Rs × Byte)}
    (hbefore : LastSent before s.displayfunction s.displaycontrol s.displaymode) :
    LastSent (before ++ bytes) t.displayfunction t.displaycontrol t.displaymode := by
  obtain ⟨hf, hc, hm⟩ := hbefore
  cases h with
  | none hb hdf hdc hdm =>
    obtain ⟨nf, nc, nm⟩ := lastCommand_of_carriesNoFlagWord hb
    constructor <;> simp [lastCommand_append, *]
  | control hmask hdf hdm =>
    obtain ⟨nf, nc, nm⟩ := lastCommand_displayControlByte hmask
    constructor <;> simp [lastCommand_append, *]
  | mode hmask hdf hdc =>
    obtain ⟨nf, nc, nm⟩ := lastCommand_entryModeByte hmask
    constructor <;> simp [lastCommand_append, *]

/-- `t` has the parameters, trace and pins of `s` after some events, which put `items` on the wire. -/
def Sends (s t : State) (items : List WireItem) : Prop :=
  ∃ es, Emitted s t es ∧ wireAfter s.cfg s.trace.length s.pins es = items

theorem Sends.wire {s t : State} {items : List WireItem} (h : Sends s t items) : t.wire = s.wire ++ items := by
  obtain ⟨es, hes, rfl⟩ := h
  exact hes.wire

theorem Sends.wireLog {s t : State} {items : List WireItem} (h : Sends s t items)
    (hpins : s.pins = pinsAfter [] s.trace) : t.wireLog = s.wireLog ++ items := by
  obtain ⟨es, hes, rfl⟩ := h
  exact State.wireLog_eq_append hes hpins

theorem sends_nil_of_wire_eq {s t : State} (h : ∃ es, Emitted s t es) (hw : t.wire = s.wire) : Sends s t [] := by
  obtain ⟨es, hes⟩ := h
  exact ⟨es, hes, by simpa [hw] using hes.wire⟩

theorem sends_transaction {s t : State} {body : List Event} {items : List WireItem} (D : PinsApart s.cfg)
    (hen : EnIdle s.cfg s.pins) (ht : Emitted s t (transactionEvents s.cfg body))
    (h : Puts s.cfg (EnIdle s.cfg) body items) : Sends s t items :=
  ⟨_, ht, (puts_transactionEvents D h _ _ hen).1⟩

theorem Sends.of_called {s t : State} {ops : List Byte} {items : List WireItem}
    (h : Sends { s with hostOps := ops } t items) : Sends s t items := by
  obtain ⟨es, hes, hitems⟩ := h
  exact ⟨es, hes.congr_left, hitems⟩

theorem Carries.of_called {s t : State} {ops : List Byte} {bytes : List (Rs × Byte)}
    (h : Carries { s with hostOps := ops } t bytes) : Carries s t bytes := by
  cases h with
  | none hb hdf hdc hdm => exact .none hb hdf hdc hdm
  | control hmask hdf hdm => exact .control hmask hdf hdm
  | mode hmask hdf hdc => exact .mode hmask hdf hdc

/-- A block whose pins and wire carry what it drives (10_state.md R34; 92_eei_decisions.md D39). -/
structure WireSound (s : State) : Prop where
  apart : PinsApart s.cfg
  wireExact : s.cfg.wireExact = true

/-- And which is READY, with EN idle and the reserved bits of its flag words clear. -/
structure ReadySound (s : State) : Prop extends WireSound s where
  ready : s.phase = .ready
  idle : EnIdle s.cfg s.pins
  controlWord : s.displaycontrol &&& 0xF8#8 = 0#8
  modeWord : s.displaymode &&& 0xFC#8 = 0#8

/-- A step of a READY block sends whole bytes, and they keep the controller informed of the flag words. -/
def SendsBytes (s t : State) : Prop :=
  ∃ bytes, Sends s t (bytes.flatMap (fun b => byteTransfers b.1 b.2)) ∧ Carries s t bytes

theorem sendsBytes_of_silent {s t : State} (hes : ∃ es, Emitted s t es) (hw : t.wire = s.wire := by simp)
    (hdf : t.displayfunction = s.displayfunction := by simp) (hdc : t.displaycontrol = s.displaycontrol := by simp)
    (hdm : t.displaymode = s.displaymode := by simp) : SendsBytes s t :=
  ⟨[], sends_nil_of_wire_eq hes hw, .none rfl hdf hdc hdm⟩

theorem Effect.sendsBytes {i : Instr} {s t : State} (h : Effect i s t) (hi : i.isWire = false) (hs : ReadySound s) :
    SendsBytes s t := by
  have hes := h.exists_emitted hi
  obtain ⟨⟨D, hx⟩, hr, hen, hcontrol, hmode⟩ := hs
  cases h with
  | controller hwire => simp [hi] at hwire
  | begun _ hp _ => simp [hr] at hp
  | sent _ hb =>
    exact ⟨_, sends_transaction D hen ((emitted_transaction s _).returning _)
      (by simpa using (puts_sendAll D hx _).append (puts_delays _)), .none hb⟩
  | controlToggled _ _ hw =>
    exact ⟨_, sends_transaction D hen (((emitted_refl s).controlTransaction _ _).returning _)
      (by simpa [cmd] using puts_send D hx _ _), .control (by simpa using hw hcontrol)⟩
  | entryToggled _ _ hw =>
    exact ⟨_, sends_transaction D hen (((emitted_refl s).entryTransaction _ _).returning _)
      (by simpa [cmd] using puts_send D hx _ _), .mode (by simpa using hw hmode)⟩
  | sampled _ => exact sendsBytes_of_silent hes s.sample_wire
  | pinRead _ => exact sendsBytes_of_silent hes (s.drawRead_spec _).2.2.1
  | _ => exact sendsBytes_of_silent hes

theorem BlockMove.sendsBytes {s t : State} (h : BlockMove s t) (hs : ReadySound s) : SendsBytes s t := by
  have hes := h.exists_emitted
  cases h with
  | ran _ hi he =>
    obtain ⟨bytes, hsends, hcarries⟩ :=
      he.sendsBytes hi ⟨⟨hs.apart, hs.wireExact⟩, hs.ready, hs.idle, hs.controlWord, hs.modeWord⟩
    exact ⟨bytes, hsends.of_called, hcarries.of_called⟩
  | waitSampled _ => exact sendsBytes_of_silent hes s.sample_wire
  | _ => exact sendsBytes_of_silent hes

/-- A step of a block before begin sends nothing, or it is begin (42_init.md R140). -/
inductive Begins (s t : State) : Prop where
  | silent (hsends : Sends s t []) (hp : t.phase = .uninit)
  | begun {event : Nat} {df : Byte} (hdf : df = 0x00#8 ∨ df = 0x04#8 ∨ df = 0x08#8) (hp : t.phase = .ready)
      (hsends : Sends s t (handshakeItems event ++ (beginBytes s.cfg df).flatMap (fun b => byteTransfers b.1 b.2)))
      (hfunction : t.displayfunction = df) (hcontrol : t.displaycontrol = FLAG_D) (hmode : t.displaymode = FLAG_ID)

theorem Effect.begins {i : Instr} {s t : State} (h : Effect i s t) (hi : i.isWire = false) (hs : WireSound s)
    (hp : s.phase = .uninit) : Begins s t := by
  have hes := h.exists_emitted hi
  cases h with
  | controller hwire => simp [hi] at hwire
  | raised _ _ => exact .silent (sends_nil_of_wire_eq hes (by simp)) hp
  | @begun _ columns lines fontSize _ _ _ =>
    obtain ⟨event, hitems⟩ :=
      wireAfter_beginEvents hs.apart hs.wireExact s.trace.length s.pins (functionFlags lines fontSize)
    exact .begun (functionFlags_cases lines fontSize) (by simp)
      ⟨_, (emitted_beginBody s columns lines fontSize).returning _, hitems⟩ (by simp) (by simp) (by simp)
  | sent hr | controlToggled _ hr _ | entryToggled _ hr _ | rowOffsetsSet hr | sampled hr | latchTaken hr | waitReturned hr
  | waitEntered hr | answered hr | pinRead hr => exact absurd hr.2 (by simp [hp])

theorem BlockMove.begins {s t : State} (h : BlockMove s t) (hs : WireSound s) (hp : s.phase = .uninit)
    (hwait : s.waitBtn ≠ none → s.phase = .ready) : Begins s t := by
  have hes := h.exists_emitted
  cases h with
  | ran _ hi he =>
    cases he.begins hi ⟨hs.apart, hs.wireExact⟩ hp with
    | silent hsends hp => exact .silent hsends.of_called hp
    | begun hdf hp hsends hfunction hcontrol hmode => exact .begun hdf hp hsends.of_called hfunction hcontrol hmode
  | waitEnded hb _ | waitSampled hb => exact absurd (hwait (by simp [hb])) (by simp [hp])
  | _ => exact .silent (sends_nil_of_wire_eq hes (by simp)) hp

/-! #### The two invariants -/

theorem LastSent.commandInv {s : State} (hr : s.phase = .ready) {event : Nat} {bytes : List (Rs × Byte)}
    (hlog : s.wireLog = handshakeItems event ++ bytes.flatMap (fun b => byteTransfers b.1 b.2))
    (h : LastSent bytes s.displayfunction s.displaycontrol s.displaymode) : s.CommandInv :=
  ⟨fun hp => by simp [hr] at hp, fun _ => ⟨event, bytes, hlog, h.function, h.control, h.mode⟩⟩

/-- The controller's own steps only bring it closer to the flag words. -/
theorem shadowInv_of_controller_step {s t : State} (hs : s.ShadowInv) (hw : nextWire s.lcd.dl s.wire ≠ .waiting)
    (h : step s = .next t) : t.ShadowInv := by
  obtain ⟨huntouched, hshadowed⟩ := (shadowInv_iff s).1 hs
  have hnonempty : s.wire ≠ [] := fun hnil => hw (by rw [hnil]; rfl)
  have hphase : t.phase = s.phase := by
    obtain ⟨rest, c, m, hstep, -⟩ := step_of_not_waiting hw
    cases hstep.symm.trans h
    rfl
  refine (shadowInv_iff t).2 ⟨fun hp => absurd (huntouched (hphase ▸ hp)).1 hnonempty, fun hr => ?_⟩
  obtain ⟨c, habs, hflags⟩ := hshadowed (hphase ▸ hr)
  cases hwire : s.wire with
  | nil => exact absurd hwire hnonempty
  | cons item items =>
    rw [hwire] at habs
    cases habs with
    | skip hnext hrest =>
      cases (step_of_dropped (hwire ▸ hnext)).symm.trans h
      exact ⟨c, hrest, hflags⟩
    | run hnext hf hrest =>
      cases ((step_of_run (hwire ▸ hnext)).trans (hf _)).symm.trans h
      exact ⟨c, hrest, hflags⟩

theorem SendsBytes.shadowInv {s t : State} (h : SendsBytes s t) (hs : s.ShadowInv) (hr : s.phase = .ready)
    (hp : t.phase = .ready) (hlcd : t.lcd = s.lcd) (hdl : s.displayfunction.getLsbD 4 = false) : t.ShadowInv := by
  obtain ⟨bytes, hsends, hcarries⟩ := h
  obtain ⟨c, habs, hflags⟩ := ((shadowInv_iff s).1 hs).2 hr
  obtain ⟨c', habs', hflags'⟩ := hcarries.absorbs ((congrArg (·.1.1) hflags).trans hdl) hflags
  refine (shadowInv_iff t).2 ⟨fun hu => by simp [hp] at hu, fun _ => ⟨c', ?_, hflags'⟩⟩
  rw [hlcd, hsends.wire]
  exact habs.append habs'

theorem SendsBytes.commandInv {s t : State} (h : SendsBytes s t) (hs : s.CommandInv) (hr : s.phase = .ready)
    (hp : t.phase = .ready) (hpins : s.pins = pinsAfter [] s.trace) : t.CommandInv := by
  obtain ⟨bytes, hsends, hcarries⟩ := h
  obtain ⟨event, before, hlog, hf, hc, hm⟩ := hs.lastSent hr
  refine (hcarries.lastSent ⟨hf, hc, hm⟩).commandInv hp (event := event) ?_
  rw [hsends.wireLog hpins, hlog, List.flatMap_append, List.append_assoc]

theorem Begins.shadowInv {s t : State} (h : Begins s t) (hs : s.ShadowInv) (hp : s.phase = .uninit)
    (hlcd : t.lcd = s.lcd) : t.ShadowInv := by
  obtain ⟨hwire, hdl⟩ := hs.untouched hp
  refine (shadowInv_iff t).2 ?_
  cases h with
  | silent hsends hp' =>
    exact ⟨fun _ => ⟨by simpa [hwire] using hsends.wire, hlcd ▸ hdl⟩, fun hr => by simp [hp'] at hr⟩
  | begun hdf hr hsends hfunction hcontrol hmode =>
    obtain ⟨c, habs, hflags⟩ := absorbs_beginBytes (c := { s.lcd with dl := false }) rfl s.cfg hdf
    refine ⟨fun hu => by simp [hr] at hu, fun _ => ⟨c, ?_, ?_⟩⟩
    · rw [hlcd, hsends.wire, hwire, List.nil_append]
      exact (absorbs_handshakeItems hdl _).append habs
    · rw [hflags, State.flagBits, hfunction, hcontrol, hmode]

theorem Begins.commandInv {s t : State} (h : Begins s t) (hs : s.CommandInv) (hp : s.phase = .uninit)
    (hpins : s.pins = pinsAfter [] s.trace) : t.CommandInv := by
  have hlog := hs.nothingSent hp
  cases h with
  | silent hsends hp' => exact ⟨fun _ => by simpa [hlog] using hsends.wireLog hpins, fun hr => by simp [hp'] at hr⟩
  | @begun event df hdf hr hsends hfunction hcontrol hmode =>
    refine LastSent.commandInv hr (event := event) (bytes := beginBytes s.cfg df) ?_ ?_
    · rw [hsends.wireLog hpins, hlog, List.nil_append]
    · rw [hfunction, hcontrol, hmode]
      exact lastSent_beginBytes s.cfg hdf

theorem BlockMove.lcd {s t : State} (h : BlockMove s t) : t.lcd = s.lcd := by
  cases h with
  | ran _ hi he =>
    cases he with
    | controller hwire => simp [hi] at hwire
    | _ => simp
  | _ => simp

/-- Settles O59: the controller's steps shorten the wire it has to absorb; the block's append whole bytes that carry what they
change of the flag words, or begin's wire, which carries all of them. -/
theorem stepKeepsTheShadow : Obligations.StepKeepsTheShadow := by
  intro s t hcontrol hpins hx h
  obtain ⟨hw, taken, rest, c, m, -, rfl⟩ | ⟨hw, hf, hmove⟩ := step_move h
  · exact ⟨fun hs => shadowInv_of_controller_step hs hw h, fun _ hs => ⟨hs.nothingSent, hs.lastSent⟩⟩
  have hwire : WireSound s := ⟨pinsApart_of_valid (hcontrol.valid hf), hx⟩
  cases hp : s.phase with
  | init => exact absurd hp hcontrol.phaseSettled
  | uninit =>
    have hbegins := hmove.begins hwire hp hcontrol.waitReady
    exact ⟨fun hs => hbegins.shadowInv hs hp hmove.lcd, fun hreplay hs => hbegins.commandInv hs hp hreplay.pinsReplay⟩
  | ready =>
    have hsends := hmove.sendsBytes ⟨hwire, hp, hpins.enIdle hp, hcontrol.controlWord hp, hcontrol.modeWord hp⟩
    have hready : t.phase = .ready := (hmove.phase.resolve_right (by simp [hp])).trans hp
    have hdl : s.displayfunction.getLsbD 4 = false := by
      obtain hdf | hdf | hdf := hcontrol.functionWord hp <;> rw [hdf] <;> rfl
    exact ⟨fun hs => hsends.shadowInv hs hp hready hmove.lcd hdl,
      fun hreplay hs => hsends.commandInv hs hp hready hreplay.pinsReplay⟩

end Sys2Proof.Machine
end

/-! ### The controller's memories and its address counter -/

section
namespace Sys2Proof.Machine

open Sys2Proof

theorem Target.size_pos (k : Target) : 0 < k.size := by cases k <;> decide

/-- The address counter moves by one modulo the target's size (20_memory.md R63). -/
theorem Lcd.moved_toNat {c : Lcd} (h : c.ac.toNat < c.target.size) (up : Bool) :
    (c.moved up).toNat = (if up then c.ac.toNat + 1 else c.ac.toNat + c.target.size - 1) % c.target.size := by
  have hmask (a : BitVec 7) : (a &&& 0x3F#7).toNat = a.toNat % 64 := by
    rw [BitVec.toNat_and]
    exact Nat.and_two_pow_sub_one_eq_mod _ 6
  unfold Lcd.moved
  cases ht : c.target <;> rw [ht] at h <;> simp only [Target.size, hmask] at h ⊢ <;> split <;> bv_omega

theorem Lcd.moved_lt {c : Lcd} (h : c.ac.toNat < c.target.size) (up : Bool) : (c.moved up).toNat < c.target.size := by
  rw [Lcd.moved_toNat h]
  exact Nat.mod_lt _ c.target.size_pos

/-! #### A data byte -/

section DataByte

variable (c : Lcd) (v : Byte)

@[simp] theorem Lcd.written_target : (c.written v).target = c.target := by
  cases h : c.target <;> simp [Lcd.written, h]

@[simp] theorem Lcd.written_ac : (c.written v).ac = c.moved c.id := by
  cases h : c.target <;> simp [Lcd.written, h]

@[simp] theorem Lcd.written_id : (c.written v).id = c.id := by
  cases h : c.target <;> simp [Lcd.written, h]

@[simp] theorem Lcd.written_flags : (c.written v).flags = c.flags := by
  cases h : c.target <;> simp [Lcd.written, h, Lcd.flags]

theorem Lcd.written_shift (hs : c.s = false) : (c.written v).shift = c.shift := by
  cases h : c.target <;> simp [Lcd.written, h, hs]

theorem Lcd.written_memory (k : Target) :
    (c.written v).memory k = if k = c.target then (c.memory k).write c.ac.toNat v else c.memory k := by
  cases h : c.target <;> cases k <;> simp [Lcd.written, h, Lcd.memory]

theorem Lcd.read_written_same : (c.written v).read c.target c.ac.toNat = some v := by
  simp [Lcd.read, Lcd.written_memory]

theorem Lcd.read_written_other {k : Target} {a : Nat} (h : k ≠ c.target ∨ a ≠ c.ac.toNat) :
    (c.written v).read k a = c.read k a := by
  simp only [Lcd.read, Lcd.written_memory]
  split
  · exact Memory.read_write_other (h.resolve_left (not_not.mpr ‹_›)) _ v
  · rfl

end DataByte

/-! #### The invariant -/

/-- The invariant speaks of the controller alone. -/
theorem State.LcdInv.of_lcd_eq {s t : State} (hs : s.LcdInv) (h : t.lcd = s.lcd) : t.LcdInv := by
  obtain ⟨hddram, hcgram, hac⟩ := hs
  rw [← h] at hddram hcgram hac
  exact ⟨hddram, hcgram, hac⟩

/-- The invariant of the controller from that of its memories, one by one. -/
theorem lcdInv_iff (s : State) :
    s.LcdInv ↔ (∀ k, (s.lcd.memory k).wf k.size = true) ∧ s.lcd.ac.toNat < s.lcd.target.size := by
  constructor
  · rintro ⟨hddram, hcgram, hac⟩
    exact ⟨fun k => by cases k; exacts [hddram, hcgram], hac⟩
  · rintro ⟨hmemory, hac⟩
    exact ⟨hmemory .ddram, hmemory .cgram, hac⟩

theorem State.LcdInv.written {s : State} (hs : s.LcdInv) (v : Byte) : { s with lcd := s.lcd.written v }.LcdInv := by
  obtain ⟨hmemory, hac⟩ := (lcdInv_iff s).1 hs
  refine (lcdInv_iff _).2 ⟨fun k => ?_, by simpa using Lcd.moved_lt hac s.lcd.id⟩
  simp only [Lcd.written_memory]
  split
  · rename_i hk
    exact Memory.wf_write (hmemory k) (hk ▸ hac) v
  · exact hmemory k

theorem State.LcdInv.misread (s : State) : s.misread.LcdInv :=
  ⟨Memory.wf_ofFn _ _, Memory.wf_ofFn _ _, Lcd.ofFree_ac_lt _⟩

/-- Every wire form keeps the memories canonical and the counter in its target (20_memory.md R63). -/
theorem State.LcdInv.exec_wire {i : Instr} {s t : State} (hs : s.LcdInv) (hi : i.isWire = true) (h : exec i s = .next t) :
    t.LcdInv := by
  obtain ⟨hddram, hcgram, hac⟩ := hs
  cases i with
  | wireClearDisplay => cases h; exact ⟨Memory.wf_fill 128 _, hcgram, Target.size_pos _⟩
  | wireReturnHome _ => cases h; exact ⟨hddram, hcgram, Target.size_pos _⟩
  | wireCursorShift sh right _ =>
    cases h
    cases sh with
    | true => exact ⟨hddram, hcgram, hac⟩
    | false => exact ⟨hddram, hcgram, Lcd.moved_lt hac right⟩
  | wireSetCgramAddr a => cases h; exact ⟨hddram, hcgram, by simp only [Target.size]; bv_omega⟩
  | wireSetDdramAddr a => cases h; exact ⟨hddram, hcgram, a.isLt⟩
  | wireDataByte d => cases h; exact State.LcdInv.written ⟨hddram, hcgram, hac⟩ d
  | wireEntryModeSet _ _ | wireDisplayControl _ _ _ | wireFunctionSet _ _ _ _ | wireInitNibble3 | wireInitNibble2 =>
    cases h
    exact ⟨hddram, hcgram, hac⟩
  | _ => cases hi

theorem blockMove_of_step {s t : State} (hw : nextWire s.lcd.dl s.wire = .waiting) (h : step s = .next t) :
    BlockMove s t :=
  ((step_move h).resolve_left fun hcontroller => hcontroller.1 hw).2.2

/-- Settles O58: the controller runs a wire form, passes an item over or is replaced by a canonical free value; the block's
own moves leave it alone. -/
theorem stepKeepsControllerMemoriesCanonical : Obligations.StepKeepsControllerMemoriesCanonical := by
  intro s t hs h
  obtain ⟨i, rest, hw, hi⟩ | ⟨rest, -, rfl⟩ | ⟨rest, -, rfl⟩ | ⟨hw, -⟩ := step_cases h
  · exact (hs.of_lcd_eq (t := { s with wire := rest }) rfl).exec_wire (nextWire_run hw).1 hi
  · exact hs.of_lcd_eq rfl
  · exact (State.LcdInv.misread s).of_lcd_eq rfl
  · exact hs.of_lcd_eq (blockMove_of_step hw h).lcd

/-! #### The wire forms one by one -/

/-- Settles O45: each of these meanings is a record update of the controller. -/
theorem controllerCommandsSetTheirRegisters : Obligations.ControllerCommandsSetTheirRegisters :=
  ⟨fun _ _ _ => rfl, fun _ _ _ _ => rfl, fun _ _ _ _ _ => rfl, fun _ _ => rfl,
    fun a _ => by rw [BitVec.ofNat_toNat]; rfl, fun _ _ => rfl, fun _ => rfl, fun _ => rfl⟩

/-- Settles O46: DDRAM is the fill, CGRAM and the other registers are those of before. -/
theorem clearFillsTheDisplayMemory : Obligations.ClearFillsTheDisplayMemory := by
  intro s
  have hfill (a : Nat) : Memory.read (Memory.fill 128 0x20#8) a = if a < 128 then some 0x20#8 else none :=
    Memory.read_fill 128 a _
  exact ⟨_, rfl, fun a ha => (hfill a).trans (if_pos ha), fun a ha => (hfill a).trans (if_neg (Nat.not_lt.2 ha)),
    fun _ => rfl, rfl, rfl, rfl, rfl, rfl, rfl, rfl, rfl, rfl, rfl, rfl⟩

/-- Settles O47: `Lcd.written` by its rules, one for each part of the controller. -/
theorem dataByteIsWrittenAtTheAddressCounter : Obligations.DataByteIsWrittenAtTheAddressCounter := by
  intro s v hac
  have hflags := s.lcd.written_flags v
  simp only [Lcd.flags, Prod.mk.injEq] at hflags
  obtain ⟨⟨hdl, hn, hf⟩, ⟨hd, hc, hb⟩, hs⟩ := hflags
  exact ⟨s.lcd.written v, rfl, s.lcd.read_written_same v, fun k a => s.lcd.read_written_other v, s.lcd.written_target v,
    by rw [Lcd.written_ac, Lcd.moved_toNat hac], s.lcd.written_id v, hs, hd, hc, hb, hdl, hn, hf, s.lcd.written_shift v⟩

/-- Settles O48: the display shift writes `shift` alone, the cursor shift `ac` alone. -/
theorem cursorShiftHasNoMemoryEffect : Obligations.CursorShiftHasNoMemoryEffect := by
  intro s sh right x hac
  refine ⟨_, rfl, ?_⟩
  cases sh with
  | true => cases right <;> simp [Lcd.read, Lcd.memory, Int.sub_eq_add_neg]
  | false => simp [Lcd.read, Lcd.memory, Lcd.moved_toNat hac]

theorem nextWire_byteTransfers {rs : Rs} {v : Byte} {i : Instr} (hi : decodeWireByte rs v = some i) :
    nextWire false (byteTransfers rs v) = .run i [] := by
  have hv : v.extractLsb' 4 4 ++ v.extractLsb' 0 4 = v := BitVec.extractLsb'_append_extractLsb' (w := 4) (len := 4)
  simp [nextWire, byteTransfers, hv, hi]

/-- Settles O7: what `nextWire` makes of the front of the wire in each of the two interface modes. -/
theorem stepRunsWhatTheControllerLatched : Obligations.StepRunsWhatTheControllerLatched := by
  refine ⟨fun s rs n rest i hwire hdl hi => step_of_run ?_, fun s rs v rest i hwire hdl hi => step_of_run ?_,
    fun s rs k rest hwire => step_of_dropped ?_⟩
  · have hnibble : decodeWireNibble rs n = some i := hi
    simp [nextWire, hwire, hdl, hnibble]
  · exact hwire ▸ hdl ▸ nextWire_append_of_run (nextWire_byteTransfers hi) rest
  · rw [hwire, nextWire]

end Sys2Proof.Machine
end

/-! ### What a stateless display operation sends, and what its operands encode -/

section
namespace Sys2Proof.Machine

open Sys2Proof

/-! #### The checks before an operation -/

theorem checksFirst_of_whenReady {i : Instr} {body : State → State} (h : ∀ s, exec i s = whenReady s body) :
    ChecksFirst i :=
  ⟨fun s code hcode => by simp [h, whenReady, hostOp, hcode], fun s hc hp => (h s).trans (whenReady_of_notReady hc hp _)⟩

/-! #### Delays -/

theorem delayTotal_append (es fs : List Event) : delayTotal (es ++ fs) = delayTotal es + delayTotal fs := by
  induction es with
  | nil => simp [delayTotal]
  | cons e es ih => cases e <;> simp [delayTotal, ih, Nat.add_assoc]

theorem delayTotal_send (P : Params) (v : Byte) (rs : Rs) : delayTotal (send P v rs) = 204 := rfl

theorem delayTotal_sendAll (P : Params) (bytes : List (Rs × Byte)) : delayTotal (sendAll P bytes) = 204 * bytes.length := by
  induction bytes with
  | nil => rfl
  | cons b bytes ih =>
    rw [sendAll, List.flatMap_cons, delayTotal_append, delayTotal_send, ← sendAll, ih, List.length_cons]
    omega

theorem delayTotal_delays (pause : List Nat) : delayTotal (pause.map .delay) = pause.sum := by
  induction pause with
  | nil => rfl
  | cons us pause ih => simp [delayTotal, ih]

theorem delayTotal_transactionEvents (P : Params) (body : List Event) :
    delayTotal (transactionEvents P body) = 20 + delayTotal body := by
  have hclaim : delayTotal (claimEvents P) = 10 := rfl
  have hrelease : delayTotal (releaseEvents P) = 10 := rfl
  rw [transactionEvents, delayTotal_append, delayTotal_append, hclaim, hrelease]
  omega

/-! #### One transaction of a READY block -/

/-- What a transaction of these bytes and pauses puts on the wire; EN is idle again afterwards (41_transmit.md R122). -/
theorem puts_transaction_sendAll {P : Params} (D : PinsApart P) (hx : P.wireExact = true) (bytes : List (Rs × Byte))
    (pause : List Nat) :
    Puts P (EnIdle P) (transactionEvents P (sendAll P bytes ++ pause.map .delay))
      (bytes.flatMap (fun b => byteTransfers b.1 b.2)) := by
  simpa using puts_transactionEvents D ((puts_sendAll D hx bytes).append (puts_delays pause))

theorem sent_transaction (s : State) (bytes : List (Rs × Byte)) (pause : List Nat) :
    Sent s ((s.transaction (sendAll s.cfg bytes ++ pause.map .delay)).returning .none)
      (sendAll s.cfg bytes ++ pause.map .delay) bytes (20 + 204 * bytes.length + pause.sum) := by
  refine ⟨s.transaction_trace _, ?_, s.transaction_pins _, by simp, by simp, fun ⟨hv, hx, hen⟩ => ?_⟩
  · rw [← transactionEvents, delayTotal_transactionEvents, delayTotal_append, delayTotal_sendAll, delayTotal_delays]
    omega
  · have hitems := (puts_transaction_sendAll (pinsApart_of_valid hv) hx bytes pause s.trace.length s.pins hen).1
    exact (s.transaction_wire _).trans (congrArg (s.wire ++ ·) hitems)

theorem displayOpFrame_transaction (s : State) (body : List Event) :
    DisplayOpFrame s ((s.transaction body).returning .none) := by
  simp [DisplayOpFrame, SameButtons, SameControl, SameController, SameInputs]

theorem sameDisplay_transaction (s : State) (body : List Event) : SameDisplay s ((s.transaction body).returning .none) := by
  simp [SameDisplay]

/-- A display operation whose body is these bytes and pauses is a stateless one (43_display_ops.md R160). -/
theorem statelessOp_of_displayOp {i : Instr} {body : State → List Event} {bytes : State → List (Rs × Byte)} {us : Nat}
    (pause : List Nat) (hexec : ∀ s, exec i s = displayOp s body)
    (hbody : ∀ s, body s = sendAll s.cfg (bytes s) ++ pause.map .delay)
    (hus : ∀ s, 20 + 204 * (bytes s).length + pause.sum = us) : StatelessOp i body bytes us := by
  refine ⟨checksFirst_of_whenReady hexec, fun s hr =>
    ⟨_, (hexec s).trans (displayOp_of_ready hr body), ?_, sameDisplay_transaction s _, displayOpFrame_transaction s _⟩⟩
  rw [hbody, ← hus s]
  exact sent_transaction s (bytes s) pause

/-! #### Addresses -/

theorem ddramByte_eq (a : BitVec 7) : ddramByte a = BitVec.ofNat 8 (0x80 + a.toNat) := by
  revert a
  decide

theorem cgramByte_eq (slot : Byte) : cgramByte slot = BitVec.ofNat 8 (0x40 + 8 * (slot.toNat % 8)) := by
  revert slot
  decide

/-- The row operand is clamped to the last of `min(4, numlines)` rows (20_memory.md R60). -/
theorem clampRow_eq (numlines row : Byte) : clampRow numlines row = min row.toNat (min 4 numlines.toNat - 1) := by
  by_cases h : min 4 numlines.toNat - 1 < row.toNat
  · exact (if_pos h).trans (Nat.min_eq_right (Nat.le_of_lt h)).symm
  · exact (if_neg h).trans (Nat.min_eq_left (Nat.not_lt.1 h)).symm

theorem ddramAddr_toNat (o : RowOffsets) (numlines col row : Byte) :
    (ddramAddr o numlines col row).toNat =
      (col.toNat + (o.get (min row.toNat (min 4 numlines.toNat - 1))).toNat) % 128 := by
  simp only [ddramAddr, clampRow_eq, BitVec.extractLsb'_toNat]
  bv_omega

/-- Settles O26: one command byte, the clamped address with bit 7 set. -/
theorem setCursorSendsTheClampedAddress : Obligations.SetCursorSendsTheClampedAddress := by
  intro col row
  simp only [← ddramAddr_toNat, ← ddramByte_eq]
  exact statelessOp_of_displayOp [] (fun _ => rfl) (fun s => by simp [cmd]) fun _ => rfl

/-- Settles O31: the glyph's bytes are the address command and the bitmap. -/
theorem createCharSendsAddressThenBitmap : Obligations.CreateCharSendsAddressThenBitmap := by
  intro slot bitmap
  rw [← cgramByte_eq]
  refine statelessOp_of_displayOp (bytes := fun _ => glyphBytes slot bitmap) [] (fun _ => rfl) (fun s => ?_) fun _ => ?_
  · simp only [List.map_nil, List.append_nil, ← glyphBody_eq_sendAll]
    rfl
  · simp [glyphBytes]
    omega

end Sys2Proof.Machine
end

/-! ### Bytes on their way to the controller's memories -/

section
namespace Sys2Proof.Machine

open Sys2Proof

/-! #### Several data bytes -/

/-- The address of the `j`-th of the data bytes that come next, in the entry mode's direction (20_memory.md R63). -/
def Lcd.cell (c : Lcd) (j : Nat) : Nat := (c.ac.toNat + if c.id then j else c.target.size - j) % c.target.size

theorem Lcd.cell_ne_ac {c : Lcd} {j : Nat} (hj : j + 1 < c.target.size) : c.cell (j + 1) ≠ c.ac.toNat := by
  unfold Lcd.cell
  cases ht : c.target <;> rw [ht] at hj <;> simp only [Target.size] at hj ⊢ <;> split <;> omega

section Cells

variable {c : Lcd} (hac : c.ac.toNat < c.target.size)
include hac

theorem Lcd.cell_zero : c.cell 0 = c.ac.toNat := by
  unfold Lcd.cell
  split
  · exact Nat.mod_eq_of_lt hac
  · rw [Nat.sub_zero, Nat.add_mod_right, Nat.mod_eq_of_lt hac]

theorem Lcd.cell_written {j : Nat} (hj : j < c.target.size) (v : Byte) : (c.written v).cell j = c.cell (j + 1) := by
  simp only [Lcd.cell, Lcd.written_ac, Lcd.moved_toNat hac, Lcd.written_id, Lcd.written_target]
  cases ht : c.target <;> rw [ht] at hac hj <;> simp only [Target.size] at hac hj ⊢ <;> split <;> omega

theorem Lcd.written_ac_lt (v : Byte) : (c.written v).ac.toNat < (c.written v).target.size := by
  rw [Lcd.written_ac, Lcd.written_target]
  exact Lcd.moved_lt hac c.id

end Cells

theorem Lcd.foldl_written_target (c : Lcd) (bytes : List Byte) : (bytes.foldl Lcd.written c).target = c.target := by
  induction bytes generalizing c with
  | nil => rfl
  | cons v bytes ih => exact (ih (c.written v)).trans (c.written_target v)

theorem Lcd.foldl_written_ac {c : Lcd} (hac : c.ac.toNat < c.target.size) {bytes : List Byte}
    (hlen : bytes.length ≤ c.target.size) : (bytes.foldl Lcd.written c).ac.toNat = c.cell bytes.length := by
  induction bytes generalizing c with
  | nil => exact (Lcd.cell_zero hac).symm
  | cons v bytes ih =>
    rw [List.foldl_cons, ih (Lcd.written_ac_lt hac v) (by simpa using Nat.le_of_lt hlen), Lcd.cell_written hac hlen,
      List.length_cons]

theorem Lcd.read_foldl_written_other {c : Lcd} (hac : c.ac.toNat < c.target.size) {bytes : List Byte}
    (hlen : bytes.length ≤ c.target.size) {k : Target} {a : Nat}
    (h : k ≠ c.target ∨ ∀ j, j < bytes.length → a ≠ c.cell j) :
    (bytes.foldl Lcd.written c).read k a = c.read k a := by
  induction bytes generalizing c with
  | nil => rfl
  | cons v bytes ih =>
    rw [List.length_cons] at hlen h
    have hrest : (bytes.foldl Lcd.written (c.written v)).read k a = (c.written v).read k a := by
      refine ih (Lcd.written_ac_lt hac v) (by simpa using Nat.le_of_lt hlen) (h.imp (by simp) fun ha j hj => ?_)
      rw [Lcd.cell_written hac (by omega)]
      exact ha (j + 1) (by omega)
    have hfirst : k ≠ c.target ∨ a ≠ c.ac.toNat := h.imp_right fun ha => Lcd.cell_zero hac ▸ ha 0 (by omega)
    exact hrest.trans (c.read_written_other v hfirst)

theorem Lcd.read_foldl_written {c : Lcd} (hac : c.ac.toNat < c.target.size) {bytes : List Byte}
    (hlen : bytes.length ≤ c.target.size) {j : Nat} (hj : j < bytes.length) :
    (bytes.foldl Lcd.written c).read c.target (c.cell j) = bytes[j]? := by
  induction bytes generalizing c j with
  | nil => exact absurd hj (Nat.not_lt_zero j)
  | cons v bytes ih =>
    have hac' := Lcd.written_ac_lt hac v
    have hlen' : bytes.length ≤ (c.written v).target.size := by simpa using Nat.le_of_lt hlen
    rw [List.length_cons] at hlen hj
    cases j with
    | zero =>
      rw [Lcd.cell_zero hac, List.foldl_cons, Lcd.read_foldl_written_other hac' hlen' (.inr fun i hi => ?_)]
      · exact c.read_written_same v
      · rw [Lcd.cell_written hac (by omega)]
        exact (Lcd.cell_ne_ac (by omega)).symm
    | succ j =>
      have hrest := ih hac' hlen' (j := j) (by omega)
      rwa [Lcd.written_target, Lcd.cell_written hac (by omega)] at hrest

/-! #### What the controller makes of an address and of data -/

theorem absorbs_data {c : Lcd} (hdl : c.dl = false) (bytes : List Byte) :
    Absorbs c (bytes.flatMap (byteTransfers .data)) (bytes.foldl Lcd.written c) := by
  induction bytes generalizing c with
  | nil => exact .done c
  | cons v bytes ih =>
    have hbyte : Absorbs c (byteTransfers .data v) (c.written v) :=
      absorbs_byte hdl (i := .wireDataByte v) (f := fun k => k.written v) rfl fun _ => rfl
    exact hbyte.append (ih ((dl_eq_of_flags_eq (c.written_flags v)).trans hdl))

/-- The controller after an address command (20_memory.md R63). -/
def Lcd.pointed (c : Lcd) (k : Target) (a : BitVec 7) : Lcd := { c with target := k, ac := a }

theorem absorbs_ddramByte {c : Lcd} (hdl : c.dl = false) (a : BitVec 7) :
    Absorbs c (byteTransfers .cmd (ddramByte a)) (c.pointed .ddram a) := by
  have hdecode : decodeWireByte .cmd (ddramByte a) = some (.wireSetDdramAddr a) := by
    revert a
    decide
  exact absorbs_byte hdl hdecode (f := fun k => k.pointed .ddram a) fun _ => rfl

/-- The first address of a glyph (20_memory.md R56). -/
def slotAddress (slot : Byte) : BitVec 6 := BitVec.ofNat 6 (8 * (slot.toNat % 8))

theorem slotAddress_toNat (slot : Byte) : ((slotAddress slot).setWidth 7).toNat = 8 * (slot.toNat % 8) := by
  unfold slotAddress
  bv_omega

theorem absorbs_cgramByte {c : Lcd} (hdl : c.dl = false) (slot : Byte) :
    Absorbs c (byteTransfers .cmd (cgramByte slot)) (c.pointed .cgram ((slotAddress slot).setWidth 7)) := by
  have hdecode : decodeWireByte .cmd (cgramByte slot) = some (.wireSetCgramAddr (slotAddress slot)) := by
    revert slot
    decide
  exact absorbs_byte hdl hdecode (f := fun k => k.pointed .cgram ((slotAddress slot).setWidth 7)) fun _ => rfl

/-! #### From the operation to the wire -/

/-- A display operation of a block whose wire carries what it drives: the bytes of its body come last on the wire, and the
block can run the next one. -/
theorem exists_displayOp_sends {s : State} (hr : s.Ready) (hw : s.WireReady) {body : State → List Event}
    {bytes : List (Rs × Byte)} (hbody : body s = sendAll s.cfg bytes) :
    ∃ t, displayOp s body = .next t ∧ t.Ready ∧ t.WireReady ∧ t.lcd = s.lcd ∧
      t.wire = s.wire ++ bytes.flatMap (fun b => byteTransfers b.1 b.2) := by
  obtain ⟨hv, hx, hen⟩ := hw
  have hputs := puts_transaction_sendAll (pinsApart_of_valid hv) hx bytes [] s.trace.length s.pins hen
  rw [List.map_nil, List.append_nil] at hputs
  have hemitted := (emitted_transaction s (sendAll s.cfg bytes)).returning .none
  have hexec := displayOp_of_ready hr body
  rw [hbody] at hexec
  refine ⟨_, hexec, by simpa [State.Ready, State.Callable] using hr, ?_, by simp, by rw [hemitted.wire, hputs.1]⟩
  rw [State.WireReady, hemitted.cfg, hemitted.pins]
  exact ⟨hv, hx, hputs.2⟩

/-- Settles O51: the address command points the counter at the slot, and the bitmap is eight data bytes from there on. -/
theorem glyphReachesTheController : Obligations.GlyphReachesTheController := by
  intro s slot bitmap hlen hr hw hwire hdl addr
  obtain ⟨t, ht, -, -, hlcd, htwire⟩ :=
    exists_displayOp_sends hr hw (body := fun s => glyphBody s.cfg slot bitmap) (glyphBody_eq_sendAll _ slot bitmap)
  let c := s.lcd.pointed .cgram ((slotAddress slot).setWidth 7)
  have hac : c.ac.toNat < c.target.size := by
    simp only [c, Lcd.pointed, slotAddress_toNat, Target.size]
    omega
  have hcell : c.cell = addr := by
    funext j
    simp only [Lcd.cell, c, Lcd.pointed, slotAddress_toNat, Target.size, addr]
  have hsize : bitmap.length ≤ c.target.size := hlen ▸ (by decide : 8 ≤ Target.cgram.size)
  have habs : Absorbs t.lcd t.wire (bitmap.foldl Lcd.written c) := by
    rw [hlcd, htwire, hwire, List.nil_append, glyphBytes, List.flatMap_cons, List.flatMap_map]
    exact (absorbs_cgramByte hdl slot).append (absorbs_data (c := c) hdl bitmap)
  obtain ⟨u, hu, hulcd⟩ := absorbs_iff.1 habs
  refine ⟨t, u, ht, hu, fun j hj => ?_, fun a ha => ?_, fun a => ?_, ?_, ?_⟩ <;> rw [hulcd]
  · rw [← hcell]
    exact Lcd.read_foldl_written hac hsize (hlen ▸ hj)
  · exact Lcd.read_foldl_written_other hac hsize (.inr fun j hj => hcell ▸ ha j (hlen ▸ hj))
  · exact Lcd.read_foldl_written_other hac hsize (.inl (by decide : Target.ddram ≠ .cgram))
  · exact c.foldl_written_target bitmap
  · rw [Lcd.foldl_written_ac hac hsize, hcell, hlen]

/-- Settles O52: SET_CURSOR's command points the counter at the address, and the byte of WRITE goes there. -/
theorem writtenByteReachesTheCursor : Obligations.WrittenByteReachesTheCursor := by
  intro s col row v hr hw hwire hdl
  let a := ddramAddr s.rowOffsets s.numlines col row
  obtain ⟨t, ht, htr, htw, htlcd, htwire⟩ := exists_displayOp_sends hr hw
    (body := fun s => cmd s.cfg (ddramByte (ddramAddr s.rowOffsets s.numlines col row)))
    (sendAll_singleton _ _ _).symm
  obtain ⟨u, hu, -, -, hulcd, huwire⟩ := exists_displayOp_sends htr htw (body := fun s => data s.cfg v)
    (sendAll_singleton _ _ _).symm
  have habs : Absorbs u.lcd u.wire ((s.lcd.pointed .ddram a).written v) := by
    rw [hulcd, htlcd, huwire, htwire, hwire, List.nil_append, List.flatMap_singleton, List.flatMap_singleton]
    exact (absorbs_ddramByte hdl a).append (absorbs_data (c := s.lcd.pointed .ddram a) hdl [v])
  obtain ⟨w, hw, hwlcd⟩ := absorbs_iff.1 habs
  refine ⟨t, u, w, ht, hu, hw, ?_, ?_⟩ <;> rw [hwlcd]
  · rw [← ddramAddr_toNat]
    exact (s.lcd.pointed .ddram a).read_written_same v
  · exact (s.lcd.pointed .ddram a).written_target v

end Sys2Proof.Machine
end

/-! ### The block without the controller -/

section
namespace Sys2Proof.Machine

open Sys2Proof

/-- The same state with another controller. -/
def State.withController (s : State) (c : Lcd) : State := { s with lcd := c }

/-- What `f` does to the rest of the state does not depend on the controller, and it leaves the controller in place
(20_memory.md R67). -/
def IgnoresController (f : State → State) : Prop := ∀ s c, f (s.withController c) = (f s).withController c

theorem IgnoresController.comp {f g : State → State} (hf : IgnoresController f) (hg : IgnoresController g) :
    IgnoresController (fun s => f (g s)) := fun s c => by
  simp only [hg s c, hf (g s) c]

theorem IgnoresController.ite {p : State → Prop} [DecidablePred p] (hp : ∀ s c, p (s.withController c) ↔ p s)
    {f g : State → State} (hf : IgnoresController f) (hg : IgnoresController g) :
    IgnoresController (fun s => if p s then f s else g s) := fun s c => by
  by_cases h : p s
  · simp only [h, (hp s c).2 h, if_true, hf s c]
  · simp only [h, mt (hp s c).1 h, if_false, hg s c]

theorem ignoresController_raise (code : FaultCode) : IgnoresController (·.raise code) := fun _ _ => rfl

theorem ignoresController_returning (r : Result) : IgnoresController (·.returning r) := fun _ _ => rfl

theorem ignoresController_emit (es : List Event) : IgnoresController (·.emit es) := fun _ _ => rfl

theorem ignoresController_claim : IgnoresController State.claim := fun _ _ => rfl

theorem ignoresController_release : IgnoresController State.release := fun _ _ => rfl

theorem ignoresController_transaction {body : State → List Event} (h : ∀ s c, body (s.withController c) = body s) :
    IgnoresController (fun s => s.transaction (body s)) := fun s c => by
  simp only [State.transaction, h s c, ignoresController_claim s c, ignoresController_emit _ _ c,
    ignoresController_release _ c]

theorem ignoresController_foldl {α : Type} {f : State → α → State} (h : ∀ x, IgnoresController (f · x)) (xs : List α) :
    IgnoresController (xs.foldl f) := by
  induction xs with
  | nil => exact fun _ _ => rfl
  | cons x xs ih => exact ih.comp (h x)

/-! #### begin -/

theorem ignoresController_beginHandshake : IgnoresController State.beginHandshake := fun s c => by
  have hcfg : (s.withController c).cfg = s.cfg := rfl
  have hword : (s.withController c).displayfunction = s.displayfunction := rfl
  simp only [State.beginHandshake, hcfg, hword, ignoresController_emit _ _ c, ignoresController_claim _ c,
    ignoresController_release _ c]

theorem ignoresController_uploadGlyph (k : Fin 8) : IgnoresController (·.uploadGlyph k) :=
  ignoresController_transaction fun _ _ => rfl

theorem ignoresController_beginGlyphs : IgnoresController State.beginGlyphs :=
  ignoresController_foldl ignoresController_uploadGlyph _

theorem ignoresController_displayControl (change : Byte → Byte) :
    IgnoresController (fun s => { s with displaycontrol := change s.displaycontrol }.transaction
      (cmd s.cfg (displayControlByte (change s.displaycontrol)))) :=
  (ignoresController_transaction (body := fun s => cmd s.cfg (displayControlByte s.displaycontrol)) fun _ _ => rfl).comp
    (g := fun s => { s with displaycontrol := change s.displaycontrol }) fun _ _ => rfl

theorem ignoresController_entryMode (change : Byte → Byte) :
    IgnoresController (fun s => { s with displaymode := change s.displaymode }.transaction
      (cmd s.cfg (entryModeByte (change s.displaymode)))) :=
  (ignoresController_transaction (body := fun s => cmd s.cfg (entryModeByte s.displaymode)) fun _ _ => rfl).comp
    (g := fun s => { s with displaymode := change s.displaymode }) fun _ _ => rfl

theorem ignoresController_beginDisplay : IgnoresController State.beginDisplay := by
  have hclear := ignoresController_transaction (body := fun s => cmd s.cfg CMD_CLEAR ++ [.delay T_SLOW_CMD_US])
    fun _ _ => rfl
  have hsteps := (ignoresController_entryMode fun _ => FLAG_ID).comp (hclear.comp
    (ignoresController_displayControl fun _ => FLAG_D))
  intro s c
  have h := hsteps s c
  simp only [State.beginDisplay, State.transaction_cfg] at h ⊢
  exact h

theorem ignoresController_beginBody (columns lines fontSize : Byte) :
    IgnoresController (·.beginBody columns lines fontSize) := by
  have hstart : IgnoresController fun s => { s with
      phase := .init
      numlines := lines
      rowOffsets := defaultRowOffsets columns
      displayfunction := functionFlags lines fontSize } := fun _ _ => rfl
  have hend : IgnoresController fun s => { s with phase := .ready } := fun _ _ => rfl
  exact hend.comp (ignoresController_beginDisplay.comp (ignoresController_beginGlyphs.comp
    (ignoresController_beginHandshake.comp hstart)))

/-! #### Draws -/

theorem drawRead_withController (s : State) (c : Lcd) (p : PinId) :
    (s.withController c).drawRead p = ((s.drawRead p).1, (s.drawRead p).2.withController c) := by
  unfold State.drawRead
  have hinputs : (s.withController c).readInputs = s.readInputs := rfl
  rw [hinputs]
  cases s.readInputs <;> rfl

theorem drawMillis_withController (s : State) (c : Lcd) :
    (s.withController c).drawMillis = (s.drawMillis.1, s.drawMillis.2.withController c) := by
  unfold State.drawMillis
  have hinputs : (s.withController c).millisInputs = s.millisInputs := rfl
  rw [hinputs]
  cases s.millisInputs <;> rfl

theorem ignoresController_tickButton (b : Fin 5) : IgnoresController (·.tickButton b) := fun s c => by
  have hcfg : (s.withController c).cfg = s.cfg := rfl
  simp only [State.tickButton, hcfg, drawRead_withController]
  rfl

theorem ignoresController_tick : IgnoresController State.tick := ignoresController_foldl ignoresController_tickButton _

theorem ignoresController_sample : IgnoresController State.sample := by
  refine .ite (fun _ _ => Iff.rfl) (ignoresController_raise _) fun s c => ?_
  have htLast : (s.drawMillis.2.withController c).tLast = s.drawMillis.2.tLast := rfl
  by_cases hgate : (s.drawMillis.1 - s.drawMillis.2.tLast).toNat < POLL_MS
  · simp only [drawMillis_withController, htLast, hgate, if_true]
  · simp only [drawMillis_withController, htLast, hgate, if_false]
    exact ignoresController_tick { s.drawMillis.2 with tLast := s.drawMillis.1 } c

theorem ignoresController_clearLatch (b : Fin 5) : IgnoresController (·.clearLatch b) := fun _ _ => rfl

theorem ignoresController_finishWait (b : Fin 5) : IgnoresController (·.finishWait b) :=
  .ite (fun _ _ => Iff.rfl) (ignoresController_clearLatch b) fun _ _ => rfl

/-! #### The host operations -/

theorem exists_hostOp_of_whenReady {body : State → State} (h : IgnoresController body) :
    ∃ f, (∀ s, whenReady s body = hostOp s f) ∧ IgnoresController f :=
  ⟨_, fun _ => rfl, .ite (fun _ _ => Iff.rfl) h (ignoresController_raise _)⟩

theorem exists_hostOp_of_displayOp {body : State → List Event} (h : ∀ s c, body (s.withController c) = body s) :
    ∃ f, (∀ s, displayOp s body = hostOp s f) ∧ IgnoresController f :=
  exists_hostOp_of_whenReady ((ignoresController_returning _).comp (ignoresController_transaction h))

theorem exists_hostOp_of_displayControlOp {i : Instr} (change : Byte → Byte)
    (h : ∀ s, exec i s = displayControlOp s change) :
    ∃ f, (∀ s, exec i s = hostOp s f) ∧ IgnoresController f := by
  simp only [h]
  exact exists_hostOp_of_whenReady ((ignoresController_returning _).comp (ignoresController_displayControl change))

theorem exists_hostOp_of_entryModeOp {i : Instr} (change : Byte → Byte)
    (h : ∀ s, exec i s = entryModeOp s change) :
    ∃ f, (∀ s, exec i s = hostOp s f) ∧ IgnoresController f := by
  simp only [h]
  exact exists_hostOp_of_whenReady ((ignoresController_returning _).comp (ignoresController_entryMode change))

theorem exists_hostOp_of_withButton {body : Fin 5 → State → State} (b : Byte) (h : ∀ k, IgnoresController (body k)) :
    ∃ f, (∀ s, withButton s b body = hostOp s f) ∧ IgnoresController f := by
  refine exists_hostOp_of_whenReady ?_
  cases buttonOperand b with
  | none => exact ignoresController_raise _
  | some k => exact h k

/-- Every host operation is a body behind the checks of `hostOp` (60_exceptions.md R241), and the body ignores the
controller. -/
theorem exists_hostOp_of_isHost {i : Instr} (hi : i.isWire = false) :
    ∃ f, (∀ s, exec i s = hostOp s f) ∧ IgnoresController f := by
  cases i with
  | beginInit columns lines fontSize =>
    exact ⟨_, fun _ => rfl, .ite (fun _ _ => Iff.rfl) (ignoresController_raise _) (.ite (fun _ _ => Iff.rfl)
      (ignoresController_raise _) ((ignoresController_returning _).comp (ignoresController_beginBody _ _ _)))⟩
  | clear | home | setCursor _ _ | scrollLeft | scrollRight | createChar _ _ | write _ =>
    exact exists_hostOp_of_displayOp fun _ _ => rfl
  | setRowOffsets r0 r1 r2 r3 => exact exists_hostOp_of_whenReady fun _ _ => rfl
  | displayOn => exact exists_hostOp_of_displayControlOp (setFlag · FLAG_D) fun _ => rfl
  | displayOff => exact exists_hostOp_of_displayControlOp (clearFlag · FLAG_D) fun _ => rfl
  | cursorOn => exact exists_hostOp_of_displayControlOp (setFlag · FLAG_C) fun _ => rfl
  | cursorOff => exact exists_hostOp_of_displayControlOp (clearFlag · FLAG_C) fun _ => rfl
  | blinkOn => exact exists_hostOp_of_displayControlOp (setFlag · FLAG_B) fun _ => rfl
  | blinkOff => exact exists_hostOp_of_displayControlOp (clearFlag · FLAG_B) fun _ => rfl
  | leftToRight => exact exists_hostOp_of_entryModeOp (setFlag · FLAG_ID) fun _ => rfl
  | rightToLeft => exact exists_hostOp_of_entryModeOp (clearFlag · FLAG_ID) fun _ => rfl
  | autoscrollOn => exact exists_hostOp_of_entryModeOp (setFlag · FLAG_S) fun _ => rfl
  | autoscrollOff => exact exists_hostOp_of_entryModeOp (clearFlag · FLAG_S) fun _ => rfl
  | sampleButtons =>
    exact exists_hostOp_of_whenReady (.ite (fun _ _ => Iff.rfl) (ignoresController_raise _)
      ((ignoresController_returning _).comp ignoresController_sample))
  | takePressedEdge b => exact exists_hostOp_of_withButton b fun k _ _ => rfl
  | waitPressedEdge b =>
    exact exists_hostOp_of_withButton b fun k => .ite (fun _ _ => Iff.rfl)
      ((ignoresController_returning _).comp (ignoresController_finishWait k)) fun _ _ => rfl
  | isHeld b => exact exists_hostOp_of_withButton b fun _ _ _ => rfl
  | rawLevel b =>
    refine exists_hostOp_of_withButton b fun k => .ite (fun _ _ => Iff.rfl) (ignoresController_raise _) fun s c => ?_
    have hcfg : (s.withController c).cfg = s.cfg := rfl
    simp only [hcfg, drawRead_withController]
    exact ignoresController_returning _ _ c
  | _ => cases hi

theorem Effect.sameController {i : Instr} {s t : State} (h : Effect i s t) (hi : i.isWire = false) : SameController s t := by
  cases h with
  | controller hwire => simp [hi] at hwire
  | _ => simp [SameController]

/-- Settles O49: the host operations by their effects and by `exists_hostOp_of_isHost`, the wire forms by
`exists_controllerOp_of_isWire`. -/
theorem blockAndControllerMeetOnlyOnTheWire : Obligations.BlockAndControllerMeetOnlyOnTheWire := by
  refine ⟨fun i s t h => ⟨(exec_effect h).sameController, fun hi => ?_⟩, fun i s c hi => ?_⟩
  · obtain ⟨f, hf⟩ := exists_controllerOp_of_isWire hi
    cases (hf s).symm.trans h
    rfl
  · obtain ⟨f, hexec, hignores⟩ := exists_hostOp_of_isHost hi
    have hfault : (s.withController c).fault = s.fault := rfl
    have hwait : (s.withController c).waitBtn = s.waitBtn := rfl
    change exec i (s.withController c) = _
    simp only [hexec, hostOp, hfault, hwait, hignores s c]
    cases s.fault with
    | some code => rfl
    | none => cases s.waitBtn <;> rfl

end Sys2Proof.Machine
end

/-! ### What never happens in a sound state, and why a step refuses -/

section
namespace Sys2Proof.Machine

open Sys2Proof

/-! #### The bus-mode guard (60_exceptions.md R245) -/

theorem sample_fault_of_input {s : State} (h : s.busMode = .input) : s.sample.fault = s.fault := by
  obtain ⟨hne, -⟩ | ⟨-, -, hs⟩ | ⟨-, -, hs⟩ := s.sample_cases
  · exact absurd h hne
  · simp [hs]
  · simp [hs]

section Guard

variable {s t : State} {body : State → State}

/-- An operation whose body raises nothing raises NOT_READY at most. -/
theorem whenReady_fault_ne (h : whenReady s body = .next t) (hbody : s.Ready → (body s).fault ≠ some .busNotInput) :
    t.fault ≠ some .busNotInput := by
  obtain ⟨hr, rfl⟩ | ⟨-, -, rfl⟩ := whenReady_next h
  · exact hbody hr
  · simp

theorem displayOp_fault_ne {body : State → List Event} (h : displayOp s body = .next t) : t.fault ≠ some .busNotInput :=
  whenReady_fault_ne h fun hr => by simp [hr.1.1]

theorem displayControlOp_fault_ne {change : Byte → Byte} (h : displayControlOp s change = .next t) :
    t.fault ≠ some .busNotInput :=
  whenReady_fault_ne h fun hr => by simp [hr.1.1]

theorem entryModeOp_fault_ne {change : Byte → Byte} (h : entryModeOp s change = .next t) :
    t.fault ≠ some .busNotInput :=
  whenReady_fault_ne h fun hr => by simp [hr.1.1]

theorem withButton_fault_ne {b : Byte} {body : Fin 5 → State → State} (h : withButton s b body = .next t)
    (hbody : s.Ready → ∀ k, (body k s).fault ≠ some .busNotInput) : t.fault ≠ some .busNotInput :=
  whenReady_fault_ne h fun hr => by
    split
    · exact hbody hr _
    · simp

end Guard

/-- With the bus in INPUT whenever the block is READY, no host operation raises BUS_NOT_INPUT. -/
theorem exec_fault_ne {i : Instr} {s t : State} (hi : i.isWire = false) (hbus : s.phase = .ready → s.busMode = .input)
    (h : exec i s = .next t) : t.fault ≠ some .busNotInput := by
  unfold exec at h
  cases i with
  | beginInit columns lines fontSize =>
    simp only [execBeginInit] at h
    obtain ⟨hc, rfl⟩ := hostOp_next h
    split_ifs <;> simp [hc.1]
  | clear | home | setCursor _ _ | scrollLeft | scrollRight | createChar _ _ | write _ => exact displayOp_fault_ne h
  | displayOn | displayOff | cursorOn | cursorOff | blinkOn | blinkOff => exact displayControlOp_fault_ne h
  | leftToRight | rightToLeft | autoscrollOn | autoscrollOff => exact entryModeOp_fault_ne h
  | setRowOffsets _ _ _ _ => exact whenReady_fault_ne h fun hr => by simp [hr.1.1]
  | sampleButtons => exact whenReady_fault_ne h fun hr => by simp [hbus hr.2, sample_fault_of_input, hr.1.1]
  | takePressedEdge _ => exact withButton_fault_ne h fun hr k => by simp [hr.1.1]
  | waitPressedEdge _ => exact withButton_fault_ne h fun hr k => by split <;> simp [hr.1.1]
  | isHeld _ => exact withButton_fault_ne h fun hr k => by simp [hr.1.1]
  | rawLevel _ => exact withButton_fault_ne h fun hr k => by simp [hbus hr.2, hr.1.1]
  | _ => cases hi

/-- The block's own step in a sound state raises no BUS_NOT_INPUT: a wait that samples is a READY block's. -/
theorem block_step_fault_ne {s t : State} (hs : s.ControlInv) (hw : nextWire s.lcd.dl s.wire = .waiting)
    (h : step s = .next t) : t.fault ≠ some .busNotInput := by
  obtain ⟨_, _, hrun, -⟩ | ⟨_, hdrop, -⟩ | ⟨_, hmis, -⟩ | ⟨-, hf, hblock⟩ := step_cases h
  · simp [hw] at hrun
  · simp [hw] at hdrop
  · simp [hw] at hmis
  obtain ⟨b, hb, hiter⟩ | ⟨-, i, rest, hd, hexec⟩ | ⟨-, id, -, rfl⟩ | ⟨-, -, hline⟩ := hblock
  · obtain ⟨-, ⟨-, rfl⟩ | ⟨-, rfl⟩⟩ := waitIter_next hiter
    · simp [hf]
    · simp [sample_fault_of_input (hs.busInput (hs.waitReady (by simp [hb]))), hf]
  · exact exec_fault_ne (s := { s with hostOps := rest }) (decodeHost_isHost hd) hs.busInput hexec
  · simp
  · obtain ⟨ops, lines, rfl⟩ | rfl := fetchLine_next hline <;> simp [hf]

/-! #### Transfers without a meaning (44_buttons.md R228) -/

/-- What can be absorbed has a meaning. -/
theorem nextWire_ne_misread_of_absorbs {c c' : Lcd} {w : List WireItem} (h : Absorbs c w c') (rest : List WireItem) :
    nextWire c.dl w ≠ .misread rest := by
  cases h with
  | done _ => simp [nextWire]
  | skip hw _ => simp [hw]
  | run hw _ _ => simp [hw]

/-- A sound state's wire can be absorbed, or it is empty because begin has not run. -/
theorem nextWire_ne_misread {s : State} (hcontrol : s.ControlInv) (hshadow : s.ShadowInv) (rest : List WireItem) :
    nextWire s.lcd.dl s.wire ≠ .misread rest := by
  obtain ⟨huntouched, hshadowed⟩ := (shadowInv_iff s).1 hshadow
  cases hp : s.phase with
  | init => exact absurd hp hcontrol.phaseSettled
  | uninit => simp [(huntouched hp).1, nextWire]
  | ready =>
    obtain ⟨c, habs, -⟩ := hshadowed hp
    exact nextWire_ne_misread_of_absorbs habs rest

theorem BlockMove.misreads {s t : State} (h : BlockMove s t) : t.misreads = s.misreads := by
  cases h with
  | ran _ hi he => exact (he.sameController hi).2.1
  | _ => simp

theorem step_misreads {s t : State} (hw : ∀ rest, nextWire s.lcd.dl s.wire ≠ .misread rest) (h : step s = .next t) :
    t.misreads = s.misreads := by
  obtain ⟨i, rest, hrun, hi⟩ | ⟨rest, -, rfl⟩ | ⟨rest, hmis, -⟩ | ⟨hwait, -⟩ := step_cases h
  · obtain ⟨f, hf⟩ := exists_controllerOp_of_isWire (nextWire_run hrun).1
    cases (hf _).symm.trans hi
    rfl
  · rfl
  · exact absurd hmis (hw rest)
  · exact (blockMove_of_step hwait h).misreads

/-! #### Refusals -/

theorem hostOp_ne_refused (s : State) (body : State → State) (why : Refusal) : hostOp s body ≠ .refused why := by
  unfold hostOp
  split
  · simp
  · split <;> simp

theorem exec_ne_refused (i : Instr) (s : State) (why : Refusal) : exec i s ≠ .refused why := by
  cases hi : i.isWire with
  | true =>
    obtain ⟨f, hf⟩ := exists_controllerOp_of_isWire hi
    simp [hf s]
  | false =>
    obtain ⟨body, hbody, -⟩ := exists_hostOp_of_isHost hi
    rw [hbody]
    exact hostOp_ne_refused s body why

theorem waitIter_ne_refused (b : Fin 5) (s : State) (why : Refusal) : waitIter b s ≠ .refused why := by
  unfold waitIter
  split
  · simp
  · split <;> simp

theorem fetchLine_refused {s : State} {why : Refusal} (h : fetchLine s = .refused why) :
    why = .hostIdle ∨ why = .malformedLine := by
  unfold fetchLine at h
  split at h
  · cases h
    exact .inl rfl
  · split at h <;> cases h
  · split at h <;> cases h
    exact .inr rfl

/-- Everything a refusing step can be (10_state.md R32; logs 16, 25). -/
theorem step_refused {s : State} {why : Refusal} (h : step s = .refused why) :
    nextWire s.lcd.dl s.wire = .waiting ∧ s.Callable ∧
      (why = .hostIdle ∨ why = .incompleteOperation ∨ why = .malformedLine) := by
  cases hw : nextWire s.lcd.dl s.wire with
  | run i rest => exact absurd ((step_of_run hw).symm.trans h) (exec_ne_refused _ _ _)
  | dropped rest => cases (step_of_dropped hw).symm.trans h
  | misread rest => cases (step_of_misread hw).symm.trans h
  | waiting =>
    simp only [step, fetch, hw, fetchHost] at h
    cases hf : s.fault with
    | some code => simp [hf] at h
    | none =>
      cases hb : s.waitBtn with
      | some b => exact absurd (by simpa [hf, hb] using h) (waitIter_ne_refused b s why)
      | none =>
        refine ⟨rfl, ⟨hf, hb⟩, ?_⟩
        cases hd : decodeHost s.hostOps with
        | op i rest => exact absurd (by simpa [hf, hb, hd] using h) (exec_ne_refused i _ why)
        | illegal id => simp [hf, hb, hd] at h
        | truncated id => exact .inr (.inl (by simpa [hf, hb, hd] using h.symm))
        | empty => exact (fetchLine_refused (by simpa [hf, hb, hd] using h)).imp_right .inr

/-- Settles O60: the guard by `block_step_fault_ne`, meaning by `nextWire_ne_misread`, refusals by `step_refused`. -/
theorem soundStatesNeverMisread : Obligations.SoundStatesNeverMisread := by
  refine ⟨fun s hcontrol hshadow => ?_, fun s why => step_refused⟩
  have hmeaning := nextWire_ne_misread hcontrol hshadow
  refine ⟨fun t h ht => ?_, fun t => step_misreads hmeaning, hmeaning⟩
  obtain ⟨-, taken, rest, c, m, -, rfl⟩ | ⟨hw, -, -⟩ := step_move h
  · exact ht
  · exact absurd ht (block_step_fault_ne hcontrol hw h)

end Sys2Proof.Machine
end

/-! ### Host operations and their bytes -/

section
namespace Sys2Proof

/-! #### The table of host operations -/

theorem byte_eq_ofNat {id : Byte} {n : Nat} (h : id.toNat = n) : id = BitVec.ofNat 8 n := by
  simp [← h]

/-- An entry of R70's table: the id and the operands are the operation's words, and R72's count is theirs. -/
theorem words_of_hostInstr {id : Byte} {ops : List Byte} {i : Instr} (h : hostInstr id ops = some i) :
    encode i = .host (id :: ops) ∧ i.wf = true ∧ operandCount id = some ops.length := by
  unfold hostInstr at h
  split at h
  case h_25 => cases h
  all_goals
    rename_i hid
    cases byte_eq_ofNat hid
    split at h <;> cases h
    exact ⟨rfl, rfl, rfl⟩

/-- A well-formed host operation is in R70's table. -/
theorem exists_hostInstr_of_encode {i : Instr} {w : List Byte} (h : encode i = .host w) (hwf : i.wf = true) :
    ∃ id ops, w = id :: ops ∧ hostInstr id ops = some i := by
  cases i with
  | createChar slot bitmap =>
    cases h
    match bitmap, hwf with
    | [_, _, _, _, _, _, _, _], _ => exact ⟨_, _, rfl, rfl⟩
  | _ => cases h <;> exact ⟨_, _, rfl, rfl⟩

/-- With as many operands as R72 counts there is an operation: the lists of up to nine bytes by their length, then the ids of
that length. -/
theorem exists_hostInstr {id : Byte} {ops : List Byte} (h : operandCount id = some ops.length) :
    ∃ i, hostInstr id ops = some i := by
  rcases ops with _ | ⟨_, _ | ⟨_, _ | ⟨_, _ | ⟨_, _ | ⟨_, _ | ⟨_, _ | ⟨_, _ | ⟨_, _ | ⟨_, _ | ⟨_, _⟩⟩⟩⟩⟩⟩⟩⟩⟩⟩
  all_goals
    unfold operandCount at h
    split at h <;> cases h
  all_goals
    rename_i hid
    cases byte_eq_ofNat hid
    exact ⟨_, rfl⟩

theorem operandCount_eq_none_iff (id : Byte) :
    operandCount id = none ↔ id.toNat = 0 ∨ (0x14 ≤ id.toNat ∧ id.toNat ≤ 0x1F) ∨ 0x25 ≤ id.toNat := by
  unfold operandCount
  split <;> simp_all
  omega

theorem operandCount_le {id : Byte} {n : Nat} (h : operandCount id = some n) : n ≤ 9 := by
  unfold operandCount at h
  split at h <;> cases h <;> decide

/-- Everything reading an operation can give: the id is unassigned; or its operands are not all there; or they are, and what
follows them is left (30_encoding.md R72, R78). -/
theorem decodeHost_cases (id : Byte) (rest : List Byte) :
    (operandCount id = none ∧ decodeHost (id :: rest) = .illegal id) ∨
    (∃ n, operandCount id = some n ∧ rest.length < n ∧ decodeHost (id :: rest) = .truncated id) ∨
    (∃ ops tail i, rest = ops ++ tail ∧ hostInstr id ops = some i ∧ decodeHost (id :: rest) = .op i tail) := by
  cases hn : operandCount id with
  | none => exact .inl ⟨rfl, by simp [decodeHost, hn]⟩
  | some n =>
    by_cases hlt : rest.length < n
    · exact .inr (.inl ⟨n, rfl, hlt, by simp [decodeHost, hn, hlt]⟩)
    · have hlen : (rest.take n).length = n := by simp; omega
      obtain ⟨i, hi⟩ := exists_hostInstr (hlen.symm ▸ hn)
      exact .inr (.inr ⟨_, _, i, (List.take_append_drop n rest).symm, hi, by simp [decodeHost, hn, hlt, hi]⟩)

theorem decodeHost_of_hostInstr {id : Byte} {ops : List Byte} {i : Instr} (h : hostInstr id ops = some i)
    (rest : List Byte) : decodeHost (id :: (ops ++ rest)) = .op i rest := by
  simp [decodeHost, (words_of_hostInstr h).2.2, h]

/-- The host's bytes are read as an operation exactly when they start with its words. -/
theorem decodeHost_eq_op_iff {bytes rest : List Byte} {i : Instr} :
    decodeHost bytes = .op i rest ↔ ∃ w, bytes = w ++ rest ∧ encode i = .host w ∧ i.wf = true := by
  constructor
  · intro h
    cases bytes with
    | nil => cases h
    | cons id more =>
      obtain ⟨-, hd⟩ | ⟨n, -, -, hd⟩ | ⟨ops, tail, j, rfl, hj, hd⟩ := decodeHost_cases id more
      · cases hd.symm.trans h
      · cases hd.symm.trans h
      · cases hd.symm.trans h
        obtain ⟨hwords, hwf, -⟩ := words_of_hostInstr hj
        exact ⟨id :: ops, rfl, hwords, hwf⟩
  · rintro ⟨w, rfl, hwords, hwf⟩
    obtain ⟨id, ops, rfl, hi⟩ := exists_hostInstr_of_encode hwords hwf
    exact decodeHost_of_hostInstr hi rest

theorem decode_host_eq_some_iff {bytes : List Byte} {i : Instr} :
    decode (.host bytes) = some i ↔ decodeHost bytes = .op i [] := by
  simp only [decode]
  constructor
  · intro h
    split at h <;> cases h
    assumption
  · intro h
    rw [h]

/-! #### Wire forms -/

/-- What the controller decodes are the form's own words; a command byte bit by bit, its highest set bit telling the family
(30_encoding.md R74, R77). -/
theorem encode_of_decodeWireByte {rs : Rs} {v : Byte} {i : Instr} (h : decodeWireByte rs v = some i) :
    encode i = .wireByte rs v := by
  cases rs with
  | data =>
    cases h
    rfl
  | cmd =>
    simp only [decodeWireByte] at h
    split_ifs at h <;> cases h
    all_goals refine congrArg (Code.wireByte .cmd) (BitVec.eq_of_getLsbD_eq fun k hk => ?_)
    any_goals simp only [BitVec.getLsbD_append]
    all_goals interval_cases k <;> simp_all

theorem decodeWireByte_of_encode {rs : Rs} {v : Byte} {i : Instr} (h : encode i = .wireByte rs v) :
    decodeWireByte rs v = some i := by
  cases i <;> cases h
  case wireDataByte => rfl
  all_goals
    simp only [decodeWireByte, BitVec.getLsbD_append, BitVec.extractLsb'_append_eq_right]
    simp

theorem encode_of_decodeWireNibble {rs : Rs} {n : Nibble} {i : Instr} (h : decodeWireNibble rs n = some i) :
    encode i = .wireNibble rs n := by
  cases rs with
  | data => cases h
  | cmd =>
    simp only [decodeWireNibble] at h
    split_ifs at h with h3 h2 <;> cases h
    · exact congrArg _ h3.symm
    · exact congrArg _ h2.symm

theorem decodeWireNibble_of_encode {rs : Rs} {n : Nibble} {i : Instr} (h : encode i = .wireNibble rs n) :
    decodeWireNibble rs n = some i := by
  cases i <;> cases h <;> rfl

/-- Only a host operation can be ill-formed. -/
theorem Instr.wf_of_isWire {i : Instr} (h : i.isWire = true) : i.wf = true := by
  cases i with
  | createChar slot bitmap => cases h
  | _ => rfl

/-! #### Decoding and encoding are inverse -/

/-- The words that decode to an instruction are its words, and every well-formed instruction's words do. -/
theorem decode_eq_some_iff {c : Code} {i : Instr} : decode c = some i ↔ encode i = c ∧ i.wf = true := by
  cases c with
  | host bytes => simp [decode_host_eq_some_iff, decodeHost_eq_op_iff]
  | wireByte rs v =>
    exact ⟨fun h => ⟨encode_of_decodeWireByte h, Instr.wf_of_isWire (Machine.decodeWireByte_isWire h)⟩,
      fun h => decodeWireByte_of_encode h.1⟩
  | wireNibble rs n =>
    exact ⟨fun h => ⟨encode_of_decodeWireNibble h, Instr.wf_of_isWire (Machine.decodeWireNibble_isWire h)⟩,
      fun h => decodeWireNibble_of_encode h.1⟩

/-- Settles O1: decoding inverts encoding. -/
theorem decodeOfEncodeIsTheInstruction : Obligations.DecodeOfEncodeIsTheInstruction := fun _ hwf =>
  decode_eq_some_iff.2 ⟨rfl, hwf⟩

/-- Settles O2: encoding inverts decoding, of a word and of the front of the host's bytes. -/
theorem eachWordHasOneMeaning : Obligations.EachWordHasOneMeaning := by
  refine ⟨fun c i => decode_eq_some_iff.1, fun bytes rest i h => ?_⟩
  obtain ⟨w, hbytes, hwords, -⟩ := decodeHost_eq_op_iff.1 h
  exact ⟨w, hwords, hbytes⟩

/-! #### Lengths and ids -/

theorem units_encode {i : Instr} (h : i.wf = true) : (encode i).units = i.units := by
  cases i with
  | createChar slot bitmap => exact Laws.Lengths.createChar slot bitmap h
  | _ => rfl

theorem length_of_decodeHost_op {bytes rest : List Byte} {i : Instr} (h : decodeHost bytes = .op i rest) :
    bytes.length = i.units + rest.length := by
  obtain ⟨w, rfl, hwords, hwf⟩ := decodeHost_eq_op_iff.1 h
  rw [List.length_append, ← units_encode hwf, hwords, Code.units]

/-- The id byte alone tells the length (30_encoding.md R72). -/
theorem units_of_decodeHost_op {id : Byte} {rest tail : List Byte} {i : Instr} (h : decodeHost (id :: rest) = .op i tail) :
    ∃ n, operandCount id = some n ∧ i.units = n + 1 := by
  obtain ⟨-, hd⟩ | ⟨n, -, -, hd⟩ | ⟨ops, tail', j, -, hj, hd⟩ := decodeHost_cases id rest
  · cases hd.symm.trans h
  · cases hd.symm.trans h
  · cases hd.symm.trans h
    obtain ⟨hwords, hwf, hcount⟩ := words_of_hostInstr hj
    exact ⟨_, hcount, by rw [← units_encode hwf, hwords, Code.units, List.length_cons]⟩

theorem decodeHost_eq_illegal_iff (id : Byte) (rest : List Byte) :
    decodeHost (id :: rest) = .illegal id ↔ operandCount id = none := by
  obtain ⟨hn, hd⟩ | ⟨n, hn, -, hd⟩ | ⟨ops, tail, i, -, hi, hd⟩ := decodeHost_cases id rest
  · simp [hn, hd]
  · simp [hn, hd]
  · simp [(words_of_hostInstr hi).2.2, hd]

theorem exists_decodeHost_op_iff {id : Byte} {rest : List Byte} (h : 9 ≤ rest.length) :
    (∃ i tail, decodeHost (id :: rest) = .op i tail) ↔ operandCount id ≠ none := by
  obtain ⟨hn, hd⟩ | ⟨n, hn, hlt, -⟩ | ⟨ops, tail, i, -, hi, hd⟩ := decodeHost_cases id rest
  · simp [hn, hd]
  · have := operandCount_le hn
    omega
  · simp [(words_of_hostInstr hi).2.2, hd]

/-- Settles O3: the words' length is the table's, and the id byte's operand count gives it. -/
theorem hostOperationLengthFollowsItsId : Obligations.HostOperationLengthFollowsItsId := by
  refine ⟨fun id rest tail i => length_of_decodeHost_op, fun id rest rest' i j tail tail' hi hj => ?_,
    fun id rest hlen => ?_⟩
  · obtain ⟨n, hn, hin⟩ := units_of_decodeHost_op hi
    obtain ⟨m, hm, hjm⟩ := units_of_decodeHost_op hj
    cases hn.symm.trans hm
    exact hin.trans hjm.symm
  · rw [exists_decodeHost_op_iff hlen, ne_eq, operandCount_eq_none_iff]
    omega

end Sys2Proof
end

/-! ### Names -/

section
namespace Sys2Proof.Machine

open Sys2Proof

theorem asmLookup_eq_none_iff {α : Type} (name : String) (table : List (String × α)) :
    asmLookup name table = none ↔ name ∉ table.map Prod.fst := by
  induction table with
  | nil => simp [asmLookup]
  | cons entry table ih =>
    by_cases h : entry.1 = name
    · simp [asmLookup, h]
    · simp [asmLookup, h, Ne.symm h, ih]

/-- A name is looked up before its operands are read (60_exceptions.md R246). -/
theorem decodeCall_eq_unknown_iff (name : String) (operands : Option (List Token)) :
    decodeCall name operands = .unknown name ↔
      asmLookup name asmNames = none ∧ asmLookup name pseudoNames = none ∧ name ≠ "print" ∧
        name ≠ "poll_until_held" := by
  unfold decodeCall
  cases asmLookup name asmNames with
  | some id =>
    simp only [reduceCtorEq, false_and, iff_false]
    split <;> simp
  | none =>
    cases asmLookup name pseudoNames with
    | some p =>
      simp only [reduceCtorEq, false_and, and_false, iff_false]
      split <;> simp
    | none =>
      by_cases hprint : name = "print"
      · simp only [hprint, if_true]
        repeat' split
        all_goals simp
      · by_cases hpoll : name = "poll_until_held"
        · simp only [hpoll, if_true]
          repeat' split
          all_goals simp_all
        · simp [hprint, hpoll]

/-- Settles O4: an id is illegal when R72 counts no operands for it, a name unknown when no table has it. -/
theorem exactlyTheUnassignedIdsAreIllegal : Obligations.ExactlyTheUnassignedIdsAreIllegal := by
  refine ⟨fun id rest => (decodeHost_eq_illegal_iff id rest).trans (operandCount_eq_none_iff id), fun name operands => ?_⟩
  rw [decodeCall_eq_unknown_iff, asmLookup_eq_none_iff, asmLookup_eq_none_iff, List.mem_append, not_or]
  refine and_congr Iff.rfl ?_
  simp only [pseudoNames, List.map_cons, List.map_nil, List.mem_cons, List.not_mem_nil, or_false, not_or]
  tauto

/-- Settles O5: a word decodes to the instruction whose words it is, which `encode` computes; the lines of text by
evaluation. -/
theorem wordsOfTheSpecDecode : Obligations.WordsOfTheSpecDecode := by
  simp only [Obligations.WordsOfTheSpecDecode, decode_eq_some_iff]
  refine ⟨⟨rfl, rfl⟩, ⟨rfl, rfl⟩, ⟨rfl, rfl⟩, ⟨rfl, rfl⟩, ⟨rfl, rfl⟩, ⟨rfl, rfl⟩, ⟨rfl, rfl⟩, ⟨rfl, rfl⟩, ⟨rfl, rfl⟩,
    ⟨rfl, rfl⟩, ⟨rfl, rfl⟩, ⟨rfl, rfl⟩, Tests.test_asm_example, by decide +kernel, by decide +kernel⟩

end Sys2Proof.Machine
end

/-! ### What a READY block puts on the wire -/

section
namespace Sys2Proof.Machine

open Sys2Proof

/-! #### Command bytes of the spec's list (30_encoding.md R79) -/

theorem emittable_ddramByte (a : BitVec 7) : emittable (ddramByte a) = true := by
  revert a
  decide

theorem emittable_cgramByte (slot : Byte) : emittable (cgramByte slot) = true := by
  revert slot
  decide

theorem emittable_displayControlByte {w : Byte} (h : w &&& 0xF8#8 = 0#8) : emittable (displayControlByte w) = true := by
  revert w
  decide

theorem emittable_entryModeByte {w : Byte} (h : w &&& 0xFC#8 = 0#8) : emittable (entryModeByte w) = true := by
  revert w
  decide

/-! #### The operations by their shapes -/

/-- `t` has whole bytes on the wire after what `s` has, and every command among them is of the spec's list. -/
def SendsListed (s t : State) : Prop :=
  ∃ bytes : List (Rs × Byte), t.wire = s.wire ++ bytes.flatMap (fun b => byteTransfers b.1 b.2) ∧
    ∀ v, (Rs.cmd, v) ∈ bytes → emittable v = true

theorem sendsListed_of_wire_eq {s t : State} (h : t.wire = s.wire) : SendsListed s t :=
  ⟨[], by simp [h], by simp⟩

theorem sendsListed_transaction {s : State} (hw : s.WireReady) (bytes : List (Rs × Byte)) (pause : List Nat)
    (hb : ∀ v, (Rs.cmd, v) ∈ bytes → emittable v = true) :
    SendsListed s ((s.transaction (sendAll s.cfg bytes ++ pause.map .delay)).returning .none) := by
  obtain ⟨-, -, -, -, -, hwire⟩ := sent_transaction s bytes pause
  exact ⟨bytes, hwire hw, hb⟩

theorem sendsListed_send {s : State} (hw : s.WireReady) {rs : Rs} {v : Byte} (hv : Rs.cmd = rs → emittable v = true) :
    SendsListed s ((s.transaction (send s.cfg v rs)).returning .none) := by
  simpa using sendsListed_transaction hw [(rs, v)] [] (by simpa using hv)

section Shapes

variable {s t : State} (hr : s.Ready)
include hr

theorem sendsListed_of_whenReady {body : State → State} (h : whenReady s body = .next t) (hb : SendsListed s (body s)) :
    SendsListed s t := by
  cases (whenReady_of_ready hr body).symm.trans h
  exact hb

theorem sendsListed_of_withButton {b : Byte} {body : Fin 5 → State → State} (h : withButton s b body = .next t)
    (hb : ∀ k, (body k s).wire = s.wire) : SendsListed s t :=
  sendsListed_of_whenReady hr h (sendsListed_of_wire_eq (by
    split
    · exact hb _
    · simp))

variable (hw : s.WireReady)
include hw

theorem sendsListed_of_displayOp {body : State → List Event} (bytes : List (Rs × Byte)) (pause : List Nat)
    (h : displayOp s body = .next t) (hbody : body s = sendAll s.cfg bytes ++ pause.map .delay)
    (hb : ∀ v, (Rs.cmd, v) ∈ bytes → emittable v = true) : SendsListed s t :=
  sendsListed_of_whenReady hr h (by
    rw [hbody]
    exact sendsListed_transaction hw bytes pause hb)

/-- The common shape of the operations that send one byte. -/
theorem sendsListed_of_sendOp {body : State → List Event} {rs : Rs} {v : Byte} (h : displayOp s body = .next t)
    (hbody : body s = send s.cfg v rs) (hv : Rs.cmd = rs → emittable v = true) : SendsListed s t :=
  sendsListed_of_displayOp hr hw [(rs, v)] [] h (by simp [hbody]) (by simpa using hv)

variable (hs : s.ControlInv)
include hs

theorem sendsListed_of_displayControlOp {change : Byte → Byte} (h : displayControlOp s change = .next t)
    (hc : ∀ w, w &&& 0xF8#8 = 0#8 → change w &&& 0xF8#8 = 0#8) : SendsListed s t :=
  sendsListed_of_whenReady hr h (sendsListed_send (s := { s with displaycontrol := change s.displaycontrol }) hw
    fun _ => emittable_displayControlByte (hc _ (hs.controlWord hr.2)))

theorem sendsListed_of_entryModeOp {change : Byte → Byte} (h : entryModeOp s change = .next t)
    (hc : ∀ w, w &&& 0xFC#8 = 0#8 → change w &&& 0xFC#8 = 0#8) : SendsListed s t :=
  sendsListed_of_whenReady hr h (sendsListed_send (s := { s with displaymode := change s.displaymode }) hw
    fun _ => emittable_entryModeByte (hc _ (hs.modeWord hr.2)))

end Shapes

/-- Settles O33: the display operations by the bytes they send, the toggles by the reserved bits of their flag word, and the
others send nothing. -/
theorem onlyListedCommandBytesAreEmitted : Obligations.OnlyListedCommandBytesAreEmitted := by
  intro i s t hi hr hw hs h
  show SendsListed s t
  unfold exec at h
  cases i with
  | beginInit columns lines fontSize =>
    obtain ⟨-, rfl⟩ := hostOp_next h
    exact sendsListed_of_wire_eq (by simp [hr.2])
  | clear => exact sendsListed_of_displayOp hr hw [(.cmd, CMD_CLEAR)] [T_SLOW_CMD_US] h (by simp [cmd]) (by simp; decide)
  | home => exact sendsListed_of_displayOp hr hw [(.cmd, CMD_HOME)] [T_SLOW_CMD_US] h (by simp [cmd]) (by simp; decide)
  | setCursor col row => exact sendsListed_of_sendOp hr hw h rfl fun _ => emittable_ddramByte _
  | setRowOffsets r0 r1 r2 r3 => exact sendsListed_of_whenReady hr h (sendsListed_of_wire_eq rfl)
  | displayOn | cursorOn | blinkOn => exact sendsListed_of_displayControlOp hr hw hs h fun _ => and_setFlag rfl
  | displayOff | cursorOff | blinkOff => exact sendsListed_of_displayControlOp hr hw hs h fun _ => and_clearFlag _
  | leftToRight | autoscrollOn => exact sendsListed_of_entryModeOp hr hw hs h fun _ => and_setFlag rfl
  | rightToLeft | autoscrollOff => exact sendsListed_of_entryModeOp hr hw hs h fun _ => and_clearFlag _
  | scrollLeft | scrollRight => exact sendsListed_of_sendOp hr hw h rfl fun _ => rfl
  | createChar slot bitmap =>
    exact sendsListed_of_displayOp hr hw (glyphBytes slot bitmap) [] h (by simp [glyphBody_eq_sendAll])
      (by simp [glyphBytes, emittable_cgramByte])
  | write v => exact sendsListed_of_sendOp hr hw h rfl nofun
  | sampleButtons => exact sendsListed_of_whenReady hr h (sendsListed_of_wire_eq (by split <;> simp [State.sample_wire]))
  | takePressedEdge b => exact sendsListed_of_withButton hr h fun _ => rfl
  | waitPressedEdge b => exact sendsListed_of_withButton hr h fun _ => by split <;> simp
  | isHeld b => exact sendsListed_of_withButton hr h fun _ => rfl
  | rawLevel b =>
    refine sendsListed_of_withButton hr h fun k => ?_
    split
    · rfl
    · exact (s.drawRead_spec _).2.2.1
  | _ => cases hi

end Sys2Proof.Machine
end

/-! ### What claim, release and setup_pins do to the pins -/

section
namespace Sys2Proof.Machine

open Sys2Proof

/-! #### Mode changes -/

/-- Setting some pins to one mode leaves each of them without a known level and every other pin as it was. -/
theorem pin_pinsAfter_setModes (m : PinMap) (ps : List PinId) (d : PinDir) (p : PinId) :
    PinMap.pin (pinsAfter m (ps.map (.setMode · d))) p = if p ∈ ps then ⟨d.mode, none⟩ else PinMap.pin m p := by
  induction ps generalizing m with
  | nil => simp
  | cons q ps ih =>
    rw [List.map_cons, pinsAfter_cons, ih, pin_applyEvent]
    by_cases hq : p = q <;> simp [hq]

theorem claimEvents_eq (P : Params) :
    claimEvents P = P.dataPin.toList.map (.setMode · .output) ++ [.delay T_SETTLE_US] := rfl

theorem releaseEvents_eq (P : Params) :
    releaseEvents P = P.dataPin.toList.map (.setMode · .inputPullup) ++ [.delay T_SETTLE_US] := rfl

theorem pin_claimEvents (P : Params) (m : PinMap) (p : PinId) :
    PinMap.pin (pinsAfter m (claimEvents P)) p = if p ∈ P.dataPin.toList then ⟨.output, none⟩ else PinMap.pin m p := by
  rw [claimEvents_eq, pinsAfter_append]
  exact pin_pinsAfter_setModes m _ .output p

theorem pin_releaseEvents (P : Params) (m : PinMap) (p : PinId) :
    PinMap.pin (pinsAfter m (releaseEvents P)) p =
      if p ∈ P.dataPin.toList then ⟨.inputPullup, none⟩ else PinMap.pin m p := by
  rw [releaseEvents_eq, pinsAfter_append]
  exact pin_pinsAfter_setModes m _ .inputPullup p

theorem State.claim_wire_eq (s : State) : s.claim.wire = s.wire := by
  rw [State.claim_wire, wireAfter_of_setsMode rfl, List.append_nil]

theorem State.release_wire_eq (s : State) : s.release.wire = s.wire := by
  rw [State.release_wire, wireAfter_of_setsMode rfl, List.append_nil]

/-- Settles O18: the pins by the rule for a run of mode changes, which drive nothing and so put nothing on the wire; every
other field is one that neither operation writes. -/
theorem claimAndReleaseMoveOnlyTheDataPins : Obligations.ClaimAndReleaseMoveOnlyTheDataPins := by
  intro s
  refine ⟨fun p hp => ?_, fun p hp => ?_, s.claim_wire_eq, s.release_wire_eq, rfl, rfl, ?_, ?_, ?_, ?_⟩
  · simp [pin_claimEvents, pin_releaseEvents, hp]
  · simp [pin_claimEvents, pin_releaseEvents, hp]
  · simp [claimEvents_eq, T_SETTLE_US]
  · simp [releaseEvents_eq, T_SETTLE_US]
  · simp [SameDisplay, SameButtons, SameControl, SameController, SameInputs]
  · simp [SameDisplay, SameButtons, SameControl, SameController, SameInputs]

end Sys2Proof.Machine
end

/-! ### The pins between the steps of a READY block -/

section
namespace Sys2Proof.Machine

open Sys2Proof

/-! #### Whose mode a list of events can change -/

/-- The event switches the mode of no pin but these. -/
@[simp] def Event.switchesOnly (ps : List PinId) : Event → Bool
  | .setMode p _ => decide (p ∈ ps)
  | .drive _ _ | .delay _ | .read _ _ | .millis _ => true

theorem mode_pinsAfter_of_switchesOnly {ps : List PinId} {es : List Event} (hes : es.all (Event.switchesOnly ps) = true)
    (m : PinMap) {p : PinId} (hp : p ∉ ps) : (PinMap.pin (pinsAfter m es) p).mode = (PinMap.pin m p).mode := by
  induction es generalizing m with
  | nil => rfl
  | cons e es ih =>
    simp only [List.all_cons, Bool.and_eq_true] at hes
    rw [pinsAfter_cons, ih hes.2, pin_applyEvent]
    cases e with
    | setMode q d => simp [show p ≠ q from fun h => hp (by simpa [h] using hes.1)]
    | drive q l => by_cases hq : p = q <;> simp [hq]
    | _ => rfl

@[simp] theorem switchesOnly_claimEvents (P : Params) :
    (claimEvents P).all (Event.switchesOnly P.dataPin.toList) = true := by
  simp [claimEvents, DataPins.toList]

@[simp] theorem switchesOnly_releaseEvents (P : Params) :
    (releaseEvents P).all (Event.switchesOnly P.dataPin.toList) = true := by
  simp [releaseEvents, DataPins.toList]

@[simp] theorem switchesOnly_write4 (P : Params) (v : Nibble) (ps : List PinId) :
    (write4 P v).all (Event.switchesOnly ps) = true := rfl

@[simp] theorem switchesOnly_send (P : Params) (v : Byte) (rs : Rs) (ps : List PinId) :
    (send P v rs).all (Event.switchesOnly ps) = true := rfl

@[simp] theorem switchesOnly_sendAll (P : Params) (bytes : List (Rs × Byte)) (ps : List PinId) :
    (sendAll P bytes).all (Event.switchesOnly ps) = true := by
  simp only [sendAll, List.all_flatMap, switchesOnly_send, List.all_eq_true, implies_true]

/-! #### What setup_pins fixes -/

theorem mem_buttonPins_iff {B : ButtonPins} {p : PinId} : p ∈ B.toList ↔ ∃ b, B.get b = p := by
  simp [ButtonPins.toList, ButtonPins.get, Fin.exists_fin_succ, eq_comm]

theorem mem_dedicatedButtonPins_iff (P : Params) (seen ps : List PinId) (p : PinId) :
    p ∈ dedicatedButtonPins P seen ps ↔ p ∈ ps ∧ p ∉ P.dataPin.toList ∧ p ∉ seen := by
  induction ps generalizing seen with
  | nil => simp [dedicatedButtonPins]
  | cons q ps ih =>
    rw [dedicatedButtonPins]
    split
    · rw [ih]
      grind
    · simp only [List.mem_cons, ih]
      grind

theorem PinsApart.rs_notMem {P : Params} (D : PinsApart P) : P.rsPin ∉ P.dataPin.toList := by
  simp [DataPins.toList, D.rs_d0, D.rs_d1, D.rs_d2, D.rs_d3]

theorem PinsApart.en_notMem {P : Params} (D : PinsApart P) : P.enPin ∉ P.dataPin.toList := by
  simp [DataPins.toList, D.en_d0, D.en_d1, D.en_d2, D.en_d3]

/-- The modes `setup_pins` sets for the block's lifetime: RS and EN outputs, each button pin that is no data pin an input
(40_bus_direction.md R104 to R106). -/
structure DedicatedSet (P : Params) (m : PinMap) : Prop where
  rsOutput : (PinMap.pin m P.rsPin).mode = .output
  enOutput : (PinMap.pin m P.enPin).mode = .output
  buttonInput : ∀ b : Fin 5, P.buttonPin.get b ∉ P.dataPin.toList →
    (PinMap.pin m (P.buttonPin.get b)).mode = .inputPullup

/-- The pins of a block that holds no claim: those, EN idle, and the data pins inputs. -/
structure PinsReleased (P : Params) (m : PinMap) : Prop extends DedicatedSet P m where
  enIdle : EnIdle P m
  dataInput : ∀ p ∈ P.dataPin.toList, (PinMap.pin m p).mode = .inputPullup

/-- The invariant in terms of the pins alone. -/
theorem pinInv_iff (s : State) : s.PinInv ↔ (s.phase = .ready → PinsReleased s.cfg s.pins) := by
  constructor
  · rintro ⟨hrs, hen, hidle, hdata, hbutton⟩ hr
    exact ⟨⟨hrs hr, hen hr, fun b _ => hbutton hr b⟩, hidle hr, hdata hr⟩
  · intro h
    refine ⟨fun hr => (h hr).rsOutput, fun hr => (h hr).enOutput, fun hr => (h hr).enIdle, fun hr => (h hr).dataInput,
      fun hr b => ?_⟩
    by_cases hb : s.cfg.buttonPin.get b ∈ s.cfg.dataPin.toList
    · exact (h hr).dataInput _ hb
    · exact (h hr).buttonInput b hb

section

variable {P : Params} (D : PinsApart P)
include D

/-- `setup_pins` fixes these modes, whatever the pins were (40_bus_direction.md R104). -/
theorem dedicatedSet_setupPins (m : PinMap) : DedicatedSet P (pinsAfter m (setupPins P)) := by
  have hbuttons (p : PinId) : p ∈ dedicatedButtonPins P [] P.buttonPin.toList ↔
      (∃ b, P.buttonPin.get b = p) ∧ p ∉ P.dataPin.toList := by
    simp [mem_dedicatedButtonPins_iff, mem_buttonPins_iff]
  have hrs : ¬ ∃ b, P.buttonPin.get b = P.rsPin := fun ⟨b, hb⟩ => (D.button b).1 hb
  have hen : ¬ ∃ b, P.buttonPin.get b = P.enPin := fun ⟨b, hb⟩ => (D.button b).2 hb
  constructor
  · simp [setupPins, pin_pinsAfter_setModes, pin_applyEvent, hbuttons, hrs, D.rs_en, PinDir.mode]
  · simp [setupPins, pin_pinsAfter_setModes, pin_applyEvent, hbuttons, hen, PinDir.mode]
  · intro b hb
    simp [setupPins, pin_pinsAfter_setModes, hbuttons, hb, PinDir.mode]

/-- Switching data pins alone leaves the dedicated pins as `setup_pins` set them (40_bus_direction.md R105, R106). -/
theorem DedicatedSet.of_switchesOnly {m : PinMap} (h : DedicatedSet P m) {es : List Event}
    (hes : es.all (Event.switchesOnly P.dataPin.toList) = true) : DedicatedSet P (pinsAfter m es) where
  rsOutput := (mode_pinsAfter_of_switchesOnly hes m D.rs_notMem).trans h.rsOutput
  enOutput := (mode_pinsAfter_of_switchesOnly hes m D.en_notMem).trans h.enOutput
  buttonInput b hb := (mode_pinsAfter_of_switchesOnly hes m hb).trans (h.buttonInput b hb)

/-- Release leaves the pins released, if they are set up and EN is idle (40_bus_direction.md R102). -/
theorem pinsReleased_releaseEvents {m : PinMap} (h : DedicatedSet P m) (hen : EnIdle P m) :
    PinsReleased P (pinsAfter m (releaseEvents P)) where
  toDedicatedSet := h.of_switchesOnly D (switchesOnly_releaseEvents P)
  enIdle := ((puts_releaseEvents D) 0 m hen).2
  dataInput p hp := by simp [pin_releaseEvents, hp]

/-- What the block does to its pins does not depend on what the wire makes of them (92_eei_decisions.md D39), so what is
known of the pins with an exact wire holds for these parameters too. -/
theorem PinsApart.exact : PinsApart { P with wireExact := true } := by
  cases D
  constructor <;> assumption

/-- A transaction that sends these bytes and makes these pauses leaves the pins released (40_bus_direction.md R103). -/
theorem PinsReleased.transaction {m : PinMap} (h : PinsReleased P m) (bytes : List (Rs × Byte)) (pause : List Nat) :
    PinsReleased P (pinsAfter m (transactionEvents P (sendAll P bytes ++ pause.map .delay))) := by
  have hset := h.toDedicatedSet.of_switchesOnly D (es := claimEvents P ++ (sendAll P bytes ++ pause.map .delay)) (by simp)
  have hen := ((puts_claimEvents D.exact).append ((puts_sendAll D.exact rfl bytes).append (puts_delays pause)) 0 m
    h.enIdle).2
  rw [transactionEvents, pinsAfter_append]
  exact pinsReleased_releaseEvents D hset hen

theorem PinsReleased.sendTransaction {m : PinMap} (h : PinsReleased P m) (v : Byte) (rs : Rs) :
    PinsReleased P (pinsAfter m (transactionEvents P (send P v rs))) := by
  simpa using h.transaction D [(rs, v)] []

theorem pinsReleased_glyphEvents {m : PinMap} (h : PinsReleased P m) (ks : List (Fin 8)) :
    PinsReleased P (pinsAfter m (glyphEvents P ks)) := by
  induction ks generalizing m with
  | nil => exact h
  | cons k ks ih =>
    rw [glyphEvents, List.flatMap_cons, pinsAfter_append]
    exact ih (by simpa using h.transaction D (defaultGlyphBytes P k) [])

theorem pinsReleased_beginDisplayEvents {m : PinMap} (h : PinsReleased P m) :
    PinsReleased P (pinsAfter m (beginDisplayEvents P)) := by
  have hclear := (h.sendTransaction D (displayControlByte FLAG_D) .cmd).transaction D [(.cmd, CMD_CLEAR)] [T_SLOW_CMD_US]
  simpa [beginDisplayEvents, cmd] using hclear.sendTransaction D (entryModeByte FLAG_ID) .cmd

/-- begin leaves the pins released, whatever they were (42_init.md R141). -/
theorem pinsReleased_beginEvents (m : PinMap) (df : Byte) : PinsReleased P (pinsAfter m (beginEvents P df)) := by
  have hset : DedicatedSet P (pinsAfter m (powerUpEvents P)) := by
    rw [powerUpEvents, powerUpModes, List.append_assoc, List.append_assoc, pinsAfter_append]
    exact (dedicatedSet_setupPins D m).of_switchesOnly D (by simp)
  have hnibbles := hset.of_switchesOnly D (es := handshakeNibbles P) (by simp [handshakeNibbles])
  obtain ⟨event, -, hidle⟩ := wireAfter_powerUpEvents D 0 m
  have hen := ((puts_handshakeNibbles D.exact rfl) 0 _ hidle).2.1
  have hreleased := pinsReleased_releaseEvents D
    (hnibbles.of_switchesOnly D (switchesOnly_send P (functionSetByte df) .cmd _))
    (puts_send D.exact rfl (functionSetByte df) .cmd 0 _ hen).2
  simpa only [beginEvents, pinsAfter_append, cmd] using
    pinsReleased_beginDisplayEvents D (pinsReleased_glyphEvents D hreleased _)

end

/-! #### Effects and steps -/

theorem State.tickButton_pins (s : State) (b : Fin 5) : (s.tickButton b).pins = s.pins :=
  (s.drawRead_spec _).2.1

theorem State.sample_pins (s : State) : s.sample.pins = s.pins :=
  State.sample_induction (I := fun u => u.pins = s.pins) rfl id (fun _ => s.drawMillis_spec.2.1) (fun _ _ => id)
    fun u b hu => (u.tickButton_pins b).trans hu

/-- What leaves the pins alone keeps the invariant. -/
theorem State.PinInv.of_pins_eq {s t : State} (hs : s.PinInv) (hpins : t.pins = s.pins := by simp)
    (hcfg : t.cfg = s.cfg := by simp) (hphase : t.phase = s.phase := by simp) : t.PinInv := by
  rw [pinInv_iff] at hs ⊢
  rwa [hpins, hcfg, hphase]

/-- Events that leave the pins released establish it. -/
theorem Emitted.pinInv {s t : State} {es : List Event} (h : Emitted s t es)
    (hes : PinsReleased s.cfg (pinsAfter s.pins es)) : t.PinInv :=
  (pinInv_iff t).2 fun _ => by rwa [h.cfg, h.pins]

theorem Effect.pinInv {i : Instr} {s t : State} (h : Effect i s t) (D : PinsApart s.cfg) (hs : s.PinInv) : t.PinInv := by
  have hreleased := (pinInv_iff s).1 hs
  cases h with
  | begun _ _ _ => exact ((emitted_beginBody s _ _ _).returning _).pinInv (pinsReleased_beginEvents D _ _)
  | sent hr _ => exact ((emitted_transaction s _).returning _).pinInv ((hreleased hr.2).transaction D _ _)
  | controlToggled _ hr _ =>
    exact (((emitted_refl s).controlTransaction _ _).returning _).pinInv ((hreleased hr.2).sendTransaction D _ _)
  | entryToggled _ hr _ =>
    exact (((emitted_refl s).entryTransaction _ _).returning _).pinInv ((hreleased hr.2).sendTransaction D _ _)
  | sampled _ => exact hs.of_pins_eq s.sample_pins
  | pinRead _ => exact hs.of_pins_eq (s.drawRead_spec _).2.1
  | _ => exact hs.of_pins_eq

theorem BlockMove.pinInv {s t : State} (h : BlockMove s t) (D : PinsApart s.cfg) (hs : s.PinInv) : t.PinInv := by
  cases h with
  | ran _ _ he => exact he.pinInv D hs.of_pins_eq
  | waitSampled _ => exact hs.of_pins_eq s.sample_pins
  | _ => exact hs.of_pins_eq

/-- Settles O56: begin and every transaction leave the pins released, no other move of the block writes a pin, and the
controller writes none. -/
theorem stepKeepsPinsReleased : Obligations.StepKeepsPinsReleased := by
  intro s t hcontrol hs h
  obtain ⟨-, taken, rest, c, m, -, rfl⟩ | ⟨-, hf, hmove⟩ := step_move h
  · exact hs.of_pins_eq
  · exact hmove.pinInv (pinsApart_of_valid (hcontrol.valid hf)) hs

end Sys2Proof.Machine
end

/-! ### A byte on its way to the display -/

section
namespace Sys2Proof.Machine

open Sys2Proof

/-! #### The parts of a byte (41_transmit.md R122) -/

theorem highNibble_eq (v : Byte) : highNibble v = BitVec.ofNat 4 (v.toNat / 16) := by
  rw [highNibble, BitVec.extractLsb', Nat.shiftRight_eq_div_pow]

theorem lowNibble_eq (v : Byte) : lowNibble v = BitVec.ofNat 4 (v.toNat % 16) := by
  apply BitVec.eq_of_toNat_eq
  simp [lowNibble]

theorem Rs.asserted_eq_beq (rs : Rs) : rs.asserted = (rs == .data) := by
  cases rs <;> rfl

/-! #### Pulses and transfers (41_transmit.md R120, R121) -/

/-- Driving another pin than EN. -/
theorem puts_drive {P : Params} {p : PinId} (hp : P.enPin ≠ p) (l : Level) : Puts P (EnIdle P) [.drive p l] [] :=
  fun _ m hm => ⟨by simp [wireAfter, wireOfEvent, hp.symm], by simpa [EnIdle, pin_applyEvent, hp] using hm⟩

/-- The four data drives of a nibble write come before its pulse. -/
theorem puts_dataDrives {P : Params} (D : PinsApart P) (x : Nibble) : Puts P (EnIdle P) ((write4 P x).take 4) [] :=
  (puts_drive D.en_d0 _).append ((puts_drive D.en_d1 _).append ((puts_drive D.en_d2 _).append (puts_drive D.en_d3 _)))

/-- From EN idle a pulse makes one transfer, whatever is known of RS and of the data lines. -/
theorem length_wireAfter_pulseEnable {P : Params} {m : PinMap} (hm : EnIdle P m) (n : Nat) :
    (wireAfter P n m (pulseEnable P)).length = 1 := by
  have hne := elec_true_ne_false P
  rw [EnIdle] at hm
  simp [pulseEnable, wireAfter, wireOfEvent, pin_applyEvent, hm, hne, hne.symm]

theorem length_wireAfter_write4 {P : Params} (D : PinsApart P) {m : PinMap} (hm : EnIdle P m) (n : Nat) (x : Nibble) :
    (wireAfter P n m (write4 P x)).length = 1 := by
  obtain ⟨hnone, hidle⟩ := puts_dataDrives D x n m hm
  have hparts : write4 P x = (write4 P x).take 4 ++ pulseEnable P := rfl
  rw [hparts, wireAfter_append, hnone, List.nil_append]
  exact length_wireAfter_pulseEnable hidle _

/-- Of a nibble write's drives only the pulse's second one asserts EN. -/
theorem count_enAsserted_write4 {P : Params} (D : PinsApart P) (x : Nibble) :
    (write4 P x).count (.drive P.enPin (elec P true)) = 1 := by
  simp [write4, pulseEnable, D.en_d0.symm, D.en_d1.symm, D.en_d2.symm, D.en_d3.symm, (elec_true_ne_false P).symm]

/-- Settles O19: the wire and EN by the rule for a byte sent, each nibble write's one pulse and one transfer by its data
drives, which leave EN alone, and its pulse. -/
theorem transferLaw : Obligations.TransferLaw := by
  intro P n m v rs hvalid hexact hen
  have D := pinsApart_of_valid hvalid
  obtain ⟨hwire, hidle⟩ := puts_send D hexact v rs n m hen
  rw [← highNibble_eq, ← lowNibble_eq, ← Rs.asserted_eq_beq]
  refine ⟨hwire, ?_, hidle, rfl, fun x => ⟨rfl, length_wireAfter_write4 D hen n x⟩⟩
  simp [send, count_enAsserted_write4 D, D.rs_en]

/-! #### The cost of a byte (41_transmit.md R127) -/

/-- The pin an event drives. -/
def Event.drivenPin : Event → Option PinId
  | .drive p _ => some p
  | .setMode _ _ | .delay _ | .read _ _ | .millis _ => none

/-- The event drives a pin that `q` admits. -/
def Event.drives (q : PinId → Bool) : Event → Bool
  | .drive p _ => q p
  | .setMode _ _ | .delay _ | .read _ _ | .millis _ => false

theorem countP_drives (q : PinId → Bool) (es : List Event) :
    es.countP (Event.drives q) = (es.filterMap Event.drivenPin).countP q := by
  have hdrives : Event.drives q = fun e => (e.drivenPin.map q).getD false := by
    funext e
    cases e <;> rfl
  rw [List.countP_filterMap, hdrives]

theorem drivenPins_write4 (P : Params) (x : Nibble) :
    (write4 P x).filterMap Event.drivenPin = P.dataPin.toList ++ List.replicate 3 P.enPin := rfl

theorem drivenPins_send (P : Params) (v : Byte) (rs : Rs) :
    (send P v rs).filterMap Event.drivenPin =
      P.rsPin :: (P.dataPin.toList ++ List.replicate 3 P.enPin ++ (P.dataPin.toList ++ List.replicate 3 P.enPin)) := rfl

theorem countP_drives_write4 (q : PinId → Bool) (P : Params) (x : Nibble) :
    (write4 P x).countP (Event.drives q) = P.dataPin.toList.countP q + if q P.enPin then 3 else 0 := by
  rw [countP_drives, drivenPins_write4, List.countP_append, List.countP_replicate]

theorem countP_drives_send (q : PinId → Bool) (P : Params) (v : Byte) (rs : Rs) :
    (send P v rs).countP (Event.drives q) =
      2 * (P.dataPin.toList.countP q + if q P.enPin then 3 else 0) + if q P.rsPin then 1 else 0 := by
  rw [countP_drives, drivenPins_send, List.countP_cons, List.countP_append, List.countP_append, List.countP_replicate,
    Nat.two_mul]

/-- Settles O20: the drives by the list of driven pins, where RS, EN and the data lines are apart; lengths and delays do not
depend on the parameters. -/
theorem costOfAByte : Obligations.CostOfAByte := by
  intro P v rs x hvalid
  have D := pinsApart_of_valid hvalid
  have hrs : P.dataPin.toList.countP (· == P.rsPin) = 0 := List.count_eq_zero_of_not_mem D.rs_notMem
  have hen : P.dataPin.toList.countP (· == P.enPin) = 0 := List.count_eq_zero_of_not_mem D.en_notMem
  have hdata : P.dataPin.toList.countP P.dataPin.toList.contains = 4 := by simp [DataPins.toList]
  refine ⟨rfl, delayTotal_send P v rs, (countP_drives_send (· == P.rsPin) P v rs).trans ?_,
    (countP_drives_send (· == P.enPin) P v rs).trans ?_, (countP_drives_send P.dataPin.toList.contains P v rs).trans ?_, rfl,
    (countP_drives_write4 P.dataPin.toList.contains P x).trans ?_, (countP_drives_write4 (· == P.enPin) P x).trans ?_, rfl,
    rfl, rfl⟩
  · simp [hrs, D.rs_en.symm]
  · simp [hen, D.rs_en]
  · simp [hdata, D.rs_notMem, D.en_notMem]
  · simp [hdata, D.en_notMem]
  · simp [hen]

/-! #### Polarity (41_transmit.md R125) -/

/-- The parameters with the polarity switch P_CTRL_ACTIVE_LOW flipped. -/
def flipPolarity (P : Params) : Params := { P with ctrlActiveLow := !P.ctrlActiveLow }

theorem elec_flipPolarity (P : Params) (a : Bool) : elec (flipPolarity P) a = invertLevel (elec P a) := by
  cases a <;> cases h : P.ctrlActiveLow <;> simp [elec, flipPolarity, h, Level.ofBool, invertLevel]

theorem dedicatedButtonPins_flipPolarity (P : Params) (seen ps : List PinId) :
    dedicatedButtonPins (flipPolarity P) seen ps = dedicatedButtonPins P seen ps := by
  induction ps generalizing seen with
  | nil => rfl
  | cons p ps ih => simp only [dedicatedButtonPins, ih]; rfl

theorem setupPins_flipPolarity (P : Params) : setupPins (flipPolarity P) = setupPins P := by
  simp only [setupPins, dedicatedButtonPins_flipPolarity]
  rfl

theorem invertControl_rs (P : Params) (a : Bool) :
    invertControl P (.drive P.rsPin (elec P a)) = .drive P.rsPin (elec (flipPolarity P) a) := by
  simp [invertControl, elec_flipPolarity]

theorem invertControl_en (P : Params) (a : Bool) :
    invertControl P (.drive P.enPin (elec P a)) = .drive P.enPin (elec (flipPolarity P) a) := by
  simp [invertControl, elec_flipPolarity]

theorem invertControl_other {P : Params} {p : PinId} (hrs : P.rsPin ≠ p) (hen : P.enPin ≠ p) (l : Level) :
    invertControl P (.drive p l) = .drive p l := by
  simp [invertControl, hrs.symm, hen.symm]

section

variable {P : Params} (D : PinsApart P)
include D

theorem map_invertControl_write4 (x : Nibble) : (write4 P x).map (invertControl P) = write4 (flipPolarity P) x := by
  simp only [write4, pulseEnable, List.map_append, List.map_cons, List.map_nil, invertControl_en,
    invertControl_other D.rs_d0 D.en_d0, invertControl_other D.rs_d1 D.en_d1, invertControl_other D.rs_d2 D.en_d2,
    invertControl_other D.rs_d3 D.en_d3]
  rfl

theorem map_invertControl_send (v : Byte) (rs : Rs) :
    (send P v rs).map (invertControl P) = send (flipPolarity P) v rs := by
  simp only [send, List.map_cons, List.map_append, map_invertControl_write4 D, invertControl_rs]
  rfl

theorem map_invertControl_handshake : (handshake P).map (invertControl P) = handshake (flipPolarity P) := by
  simp only [handshake, List.map_cons, List.map_nil, List.map_append, map_invertControl_write4 D, invertControl_rs,
    invertControl_en]
  rfl

end

/-- Settles O21: `elec` inverts with the switch, and the events of a byte and of the handshake drive RS and EN through it
alone; by the rule for a byte sent, both polarities put the same transfers on the wire. -/
theorem polarityInvertsOnlyTheControlLines : Obligations.PolarityInvertsOnlyTheControlLines := by
  intro P v rs hvalid
  have D := pinsApart_of_valid hvalid
  have D' : PinsApart (flipPolarity P) := pinsApart_of_valid hvalid
  refine ⟨(map_invertControl_send D v rs).symm, rfl, rfl, setupPins_flipPolarity P, (map_invertControl_handshake D).symm,
    fun hexact n m m' hm hm' => ?_⟩
  rw [← elec_flipPolarity] at hm'
  exact (puts_send D' hexact v rs n m' hm').1.trans (puts_send D hexact v rs n m hm).1.symm

end Sys2Proof.Machine
end

/-! ### BEGIN: its checks, its end state, its wire and its cost -/

section
namespace Sys2Proof.Machine

open Sys2Proof

/-! #### The checks (60_exceptions.md R242, R244) -/

section Checks

variable {s : State} (hc : s.Callable) (columns lines fontSize : Byte)
include hc

theorem exec_beginInit_of_begun (hp : s.phase ≠ .uninit) :
    exec (.beginInit columns lines fontSize) s = .next (s.raise .alreadyBegun) := by
  simp [exec, execBeginInit, hostOp_of_callable hc, hp]

theorem exec_beginInit_of_noLines (hp : s.phase = .uninit) (hl : lines = 0#8) :
    exec (.beginInit columns lines fontSize) s = .next (s.raise .badLines) := by
  simp [exec, execBeginInit, hostOp_of_callable hc, hp, hl]

theorem exec_beginInit_of_uninit (hp : s.phase = .uninit) (hl : lines ≠ 0#8) :
    exec (.beginInit columns lines fontSize) s = .next ((s.beginBody columns lines fontSize).returning .none) := by
  simp [exec, execBeginInit, hostOp_of_callable hc, hp, hl]

end Checks

/-- Settles O14: the two branches of begin's checks, in their order. -/
theorem beginChecksPhaseThenLines : Obligations.BeginChecksPhaseThenLines := by
  intro s columns lines fontSize hc
  exact ⟨exec_beginInit_of_begun hc columns lines fontSize, exec_beginInit_of_noLines hc columns lines fontSize⟩

/-! #### The end state (42_init.md R141, R146, R150) -/

theorem defaultRowOffsets_eq (columns : Byte) :
    defaultRowOffsets columns = ⟨0x00#8, 0x40#8, columns, BitVec.ofNat 8 (0x40 + columns.toNat)⟩ := by
  simp [defaultRowOffsets, BitVec.ofNat_add]

/-- For at least one line the font flag needs exactly one. -/
theorem functionFlags_eq {lines : Byte} (hl : lines ≠ 0#8) (fontSize : Byte) :
    functionFlags lines fontSize = if 1 < lines.toNat then 0x08#8 else if fontSize ≠ 0#8 then 0x04#8 else 0x00#8 := by
  by_cases h : 1 < lines.toNat
  · have h1 : lines ≠ 1#8 := by rintro rfl; simp at h
    simp [functionFlags, h, h1, FLAG_N]
  · have h1 : lines = 1#8 := by bv_omega
    simp [functionFlags, h1, FLAG_F]

/-- Settles O22: the fields by the rules for begin's body, the pins by the invariant that its events establish. -/
theorem beginCompletesWithItsEndState : Obligations.BeginCompletesWithItsEndState := by
  intro s columns lines fontSize hc hp hl
  refine ⟨_, exec_beginInit_of_uninit hc columns lines fontSize hp hl, by simp, by simp, by simp,
    by simp [defaultRowOffsets_eq], by simp [functionFlags_eq hl], by simp [FLAG_D], by simp [FLAG_ID], by simp, by simp,
    by simp [hc.1], by simp [hc.2], by simp [SameButtons], by simp [SameController], by simp [SameInputs], fun hvalid => ?_⟩
  have hpins := ((emitted_beginBody s columns lines fontSize).returning .none).pinInv
    (pinsReleased_beginEvents (pinsApart_of_valid hvalid) s.pins _)
  obtain ⟨hrs, hen, hidle, hdata, hbutton⟩ := hpins
  simp only [State.returning_phase, State.beginBody_phase, State.returning_cfg, State.beginBody_cfg, forall_const]
    at hrs hen hidle hdata hbutton
  exact ⟨hrs, hen, hidle, hdata, hbutton⟩

/-! #### The wire (42_init.md R143 to R149) -/

/-- A default glyph is its slot's CGRAM address and its eight bytes (42_init.md R147). -/
theorem defaultGlyphBytes_eq (P : Params) (k : Fin 8) :
    defaultGlyphBytes P k = (Rs.cmd, BitVec.ofNat 8 (0x40 + 8 * k.val)) ::
      (List.finRange 8).map (fun j => (Rs.data, P.glyphByte k j)) := by
  have haddr : cgramByte (BitVec.ofNat 8 k) = BitVec.ofNat 8 (0x40 + 8 * k.val) := by
    revert k
    decide
  rw [defaultGlyphBytes, glyphBytes, haddr]
  rfl

theorem length_beginBytes (P : Params) (df : Byte) : (beginBytes P df).length = 76 := rfl

theorem length_flatMap_byteTransfers (bytes : List (Rs × Byte)) :
    (bytes.flatMap (fun b => byteTransfers b.1 b.2)).length = 2 * bytes.length := by
  simp [List.length_flatMap, byteTransfers, Nat.mul_comm]

theorem beginBytes_eq (P : Params) (df : Byte) :
    beginBytes P df = (Rs.cmd, 0x20#8 ||| df) ::
      (List.finRange 8).flatMap (fun k => (Rs.cmd, BitVec.ofNat 8 (0x40 + 8 * k.val)) ::
        (List.finRange 8).map (fun j => (Rs.data, P.glyphByte k j))) ++
      [(Rs.cmd, 0x0C#8), (Rs.cmd, 0x01#8), (Rs.cmd, 0x06#8)] := by
  simp only [← defaultGlyphBytes_eq]
  rfl

/-- Settles O23: begin's events put the handshake and its bytes on the wire, two transfers a byte. -/
theorem beginPutsTheHandshakeOnTheWire : Obligations.BeginPutsTheHandshakeOnTheWire := by
  intro s columns lines fontSize hc hp hl hvalid hexact
  have hemitted := (emitted_beginBody s columns lines fontSize).returning .none
  obtain ⟨event, hwire⟩ := wireAfter_beginEvents (pinsApart_of_valid hvalid) hexact s.trace.length s.pins
    (functionFlags lines fontSize)
  refine ⟨_, event, _, exec_beginInit_of_uninit hc columns lines fontSize hp hl, ?_, ?_, rfl⟩
  · rw [hemitted.wire, hwire, State.returning_displayfunction, State.beginBody_displayfunction, ← beginBytes_eq]
    rfl
  · rw [← beginBytes_eq, List.length_append, length_flatMap_byteTransfers, length_beginBytes]
    rfl

/-! #### The number of transfers without an exact wire (92_eei_decisions.md D39) -/

/-- Whether the wire carries what is driven changes nibbles, not how many items there are. -/
theorem length_wireOfEvent_exact (P : Params) (n : Nat) (m : PinMap) (e : Event) :
    (wireOfEvent { P with wireExact := true } n m e).length = (wireOfEvent P n m e).length := by
  cases e with
  | drive p l =>
    simp only [wireOfEvent]
    have helec (a : Bool) : elec { P with wireExact := true } a = elec P a := rfl
    rw [helec, helec]
    split
    · split
      · rfl
      · split <;> rfl
    · rfl
  | _ => rfl

theorem length_wireAfter_exact (P : Params) (n : Nat) (m : PinMap) (es : List Event) :
    (wireAfter { P with wireExact := true } n m es).length = (wireAfter P n m es).length := by
  induction es generalizing n m with
  | nil => rfl
  | cons e es ih => simp only [wireAfter, List.length_append, length_wireOfEvent_exact, ih]

theorem beginEvents_exact (P : Params) (df : Byte) :
    beginEvents { P with wireExact := true } df = beginEvents P df := rfl

/-- With valid pins begin makes 156 transfers after the power-up item, whatever the shorted lines carry (42_init.md R143,
R149). -/
theorem exists_wireAfter_beginEvents {P : Params} (D : PinsApart P) (n : Nat) (m : PinMap) (df : Byte) :
    ∃ event transfers, wireAfter P n m (beginEvents P df) = .powerUp .cmd event :: transfers ∧
      transfers.length = 156 := by
  obtain ⟨event, hpower, -⟩ := wireAfter_powerUpEvents D n m
  obtain ⟨_, hexact⟩ := wireAfter_beginEvents D.exact rfl n m df
  have hlength : (wireAfter P n m (beginEvents P df)).length = 157 := by
    rw [← length_wireAfter_exact, ← beginEvents_exact, hexact, List.length_append, length_flatMap_byteTransfers,
      length_beginBytes]
    rfl
  rw [beginEvents, wireAfter_append, hpower, List.singleton_append] at hlength ⊢
  exact ⟨event, _, rfl, by simpa using hlength⟩

/-! #### begin as twelve transactions (42_init.md R140) -/

/-- The bodies of begin's twelve transactions, in order. -/
def beginBodies (P : Params) (df : Byte) : List (List Event) :=
  (handshake P ++ cmd P (functionSetByte df)) ::
    ((List.finRange 8).map (fun k => sendAll P (defaultGlyphBytes P k)) ++
      [cmd P (displayControlByte FLAG_D), cmd P CMD_CLEAR ++ [Event.delay T_SLOW_CMD_US], cmd P (entryModeByte FLAG_ID)])

theorem beginEvents_eq_transactions (P : Params) (df : Byte) :
    beginEvents P df = setupPins P ++ (beginBodies P df).flatMap (transactionEvents P) := by
  have hslots : ([0, 1, 2, 3, 4, 5, 6, 7] : List (Fin 8)) = List.finRange 8 := rfl
  simp only [beginEvents, powerUpEvents, powerUpModes, handshakeNibbles, glyphEvents, beginDisplayEvents, beginBodies,
    handshake, hslots, transactionEvents, List.flatMap_cons, List.flatMap_nil, List.flatMap_append, List.flatMap_map,
    List.append_assoc, List.cons_append, List.nil_append, List.append_nil]

theorem sendAll_defaultGlyphBytes (P : Params) (k : Fin 8) :
    sendAll P (defaultGlyphBytes P k) = cmd P (BitVec.ofNat 8 (0x40 + 8 * k.val)) ++
      (List.finRange 8).flatMap (fun j => data P (P.glyphByte k j)) := by
  rw [defaultGlyphBytes_eq, sendAll, List.flatMap_cons, List.flatMap_map]
  rfl

/-- The events the statement writes out are those the model emits. -/
theorem beginEvents_eq (P : Params) (df : Byte) : beginEvents P df = BeginEvents P df := by
  rw [beginEvents_eq_transactions]
  simp only [BeginEvents, beginBodies, handshake, transactionEvents, ← sendAll_defaultGlyphBytes, List.flatMap_cons,
    List.flatMap_nil, List.flatMap_append, List.flatMap_map, List.append_assoc, List.cons_append, List.nil_append,
    List.append_nil]
  rfl

/-! #### The cost (42_init.md R151) -/

/-- The length of the wait an event is, in microseconds (00_scope.md R12). -/
def Event.wait : Event → Option Nat
  | .delay us => some us
  | .setMode _ _ | .drive _ _ | .read _ _ | .millis _ => none

/-- The waits of a list of events, in order. -/
def waits (es : List Event) : List Nat := es.filterMap Event.wait

theorem waits_append (es fs : List Event) : waits (es ++ fs) = waits es ++ waits fs := List.filterMap_append

theorem waits_flatMap_const {α : Type} {f : α → List Event} {ws : List Nat} (h : ∀ x, waits (f x) = ws) (xs : List α) :
    waits (xs.flatMap f) = (List.replicate xs.length ws).flatten := by
  induction xs with
  | nil => rfl
  | cons x xs ih =>
    rw [List.flatMap_cons, waits_append, h, ih, List.length_cons, List.replicate_succ, List.flatten_cons]

theorem delayTotal_eq_sum_waits (es : List Event) : delayTotal es = (waits es).sum := by
  induction es with
  | nil => rfl
  | cons e es ih =>
    cases e with
    | delay us => exact congrArg (us + ·) ih
    | _ => exact ih

theorem count_delay_eq_count_waits (es : List Event) (us : Nat) : es.count (.delay us) = (waits es).count us := by
  induction es with
  | nil => rfl
  | cons e es ih =>
    cases e with
    | delay v => rw [List.count_cons, ih]; simp [waits, Event.wait, List.count_cons]
    | _ => exact (List.count_cons_of_ne (by simp)).trans ih

theorem waits_setupPins (P : Params) : waits (setupPins P) = [] := by
  simp [waits, setupPins, Event.wait]

/-- The waits of a byte sent (41_transmit.md R121, R127). -/
def byteWaits : List Nat := [1, 1, 100, 1, 1, 100]

theorem waits_send (P : Params) (v : Byte) (rs : Rs) : waits (send P v rs) = byteWaits := rfl

theorem waits_sendAll (P : Params) (bytes : List (Rs × Byte)) :
    waits (sendAll P bytes) = (List.replicate bytes.length byteWaits).flatten :=
  waits_flatMap_const (f := fun b : Rs × Byte => send P b.2 b.1) (fun b => waits_send P b.2 b.1) bytes

/-- The waits of the handshake, each where it stands (42_init.md R142 to R145). -/
def handshakeWaits : List Nat := [50000, 1, 1, 100, 4500, 1, 1, 100, 4500, 1, 1, 100, 150, 1, 1, 100]

theorem waits_handshake (P : Params) : waits (handshake P) = handshakeWaits := rfl

/-- The waits of a transaction, from those of its body: both changes of direction settle (40_bus_direction.md R101 to
R103). -/
def transactionWaits (ws : List Nat) : List Nat := 10 :: (ws ++ [10])

theorem waits_transactionEvents (P : Params) (body : List Event) :
    waits (transactionEvents P body) = transactionWaits (waits body) := by
  rw [transactionEvents, waits_append, waits_append]
  rfl

/-- The waits of a default glyph's upload: nine bytes in one transaction (42_init.md R147). -/
def glyphWaits : List Nat := transactionWaits (List.replicate 9 byteWaits).flatten

theorem waits_glyphUpload (P : Params) (k : Fin 8) :
    waits (transactionEvents P (sendAll P (defaultGlyphBytes P k))) = glyphWaits :=
  (waits_transactionEvents P _).trans (congrArg transactionWaits (waits_sendAll P (defaultGlyphBytes P k)))

/-- The waits of begin, transaction by transaction (42_init.md R140). -/
def beginWaits : List Nat :=
  transactionWaits (handshakeWaits ++ byteWaits) ++ ((List.replicate 8 glyphWaits).flatten ++
    (transactionWaits byteWaits ++ (transactionWaits (byteWaits ++ [2000]) ++ transactionWaits byteWaits)))

theorem waits_beginEvents (P : Params) (df : Byte) : waits (beginEvents P df) = beginWaits := by
  have hglyphs : waits ((List.finRange 8).flatMap fun k => transactionEvents P (sendAll P (defaultGlyphBytes P k))) =
      (List.replicate 8 glyphWaits).flatten := waits_flatMap_const (waits_glyphUpload P) _
  rw [beginEvents_eq_transactions, waits_append, waits_setupPins, beginBodies]
  simp only [List.flatMap_cons, List.flatMap_append, List.flatMap_map, List.flatMap_nil, waits_append, hglyphs,
    waits_transactionEvents, waits_handshake, cmd, waits_send]
  rfl

theorem sum_transactionWaits (ws : List Nat) : (transactionWaits ws).sum = ws.sum + 20 := by
  simp [transactionWaits]
  omega

theorem count_transactionWaits (ws : List Nat) (us : Nat) :
    (transactionWaits ws).count us = ws.count us + 2 * [10].count us := by
  simp only [transactionWaits, List.count_cons, List.count_append, List.count_nil]
  omega

/-- begin's waits add up to those of its handshake, its 76 bytes, its twelve transactions and the slow clear (42_init.md
R151). -/
theorem sum_beginWaits : beginWaits.sum = handshakeWaits.sum + 76 * byteWaits.sum + 12 * 20 + 2000 := by
  simp only [beginWaits, glyphWaits, List.sum_append, sum_transactionWaits, List.sum_flatten, List.map_replicate,
    List.sum_replicate, List.sum_singleton, smul_eq_mul]
  omega

/-- A wait of `us` occurs in begin as often as in those together. -/
theorem count_beginWaits (us : Nat) :
    beginWaits.count us =
      handshakeWaits.count us + 76 * byteWaits.count us + 12 * (2 * [10].count us) + [2000].count us := by
  simp only [beginWaits, glyphWaits, List.count_append, count_transactionWaits, List.count_flatten, List.map_replicate,
    List.sum_replicate, smul_eq_mul]
  omega

theorem count_setMode_of_switchesNone {es : List Event} (h : es.all (Event.switchesOnly []) = true) (p : PinId)
    (d : PinDir) : es.count (.setMode p d) = 0 :=
  List.count_eq_zero.2 fun hmem => by simpa using List.all_eq_true.1 h _ hmem

theorem count_setMode_transactionEvents {P : Params} (D : PinsApart P) {body : List Event}
    (h : body.all (Event.switchesOnly []) = true) (d : PinDir) :
    (transactionEvents P body).count (.setMode P.dataPin.d0 d) = 1 := by
  rw [transactionEvents, List.count_append, List.count_append, count_setMode_of_switchesNone h]
  cases d <;> simp [claimEvents, releaseEvents, D.d0_d1.symm, D.d0_d2.symm, D.d0_d3.symm]

theorem count_setMode_setupPins {P : Params} (D : PinsApart P) (d : PinDir) :
    (setupPins P).count (.setMode P.dataPin.d0 d) = 0 := by
  refine List.count_eq_zero.2 fun hmem => ?_
  simp [setupPins, mem_dedicatedButtonPins_iff, DataPins.toList, D.rs_d0.symm, D.en_d0.symm] at hmem

theorem switchesNone_beginBodies (P : Params) (df : Byte) :
    (beginBodies P df).all (·.all (Event.switchesOnly [])) = true := by
  simp only [beginBodies, handshake, cmd, List.all_cons, List.all_append, List.all_map, List.all_nil, Function.comp_def,
    switchesOnly_write4, switchesOnly_send, switchesOnly_sendAll, Event.switchesOnly, Bool.and_self]
  rfl

theorem length_beginBodies (P : Params) (df : Byte) : (beginBodies P df).length = 12 := rfl

/-- Each of begin's transactions claims and releases the first data pin once, and `setup_pins` leaves it alone
(40_bus_direction.md R101 to R104). -/
theorem count_setMode_beginEvents {P : Params} (D : PinsApart P) (df : Byte) (d : PinDir) :
    (beginEvents P df).count (.setMode P.dataPin.d0 d) = 12 := by
  have hone : ∀ body ∈ beginBodies P df, (List.count (.setMode P.dataPin.d0 d) ∘ transactionEvents P) body = 1 :=
    fun body hbody => count_setMode_transactionEvents D (List.all_eq_true.1 (switchesNone_beginBodies P df) body hbody) d
  rw [beginEvents_eq_transactions, List.count_append, count_setMode_setupPins D, List.count_flatMap, Nat.zero_add,
    ← length_beginBodies P df, List.map_congr_left hone]
  simp

/-- Settles O24: the waits transaction by transaction, the claims and releases by the twelve transactions, the transfers by
the wire of begin's events. -/
theorem costOfBegin : Obligations.CostOfBegin := by
  intro s columns lines fontSize hc hp hl
  have hemitted := (emitted_beginBody s columns lines fontSize).returning .none
  refine ⟨_, _, exec_beginInit_of_uninit hc columns lines fontSize hp hl, hemitted.trace, ?_, hemitted.pins, ?_⟩
  · simp [beginEvents_eq]
  · simp only [delayTotal_eq_sum_waits, count_delay_eq_count_waits, waits_beginEvents, sum_beginWaits, count_beginWaits]
    refine ⟨rfl, rfl, rfl, rfl, rfl, rfl, rfl, rfl, fun hvalid => ?_⟩
    have D := pinsApart_of_valid hvalid
    obtain ⟨event, transfers, hwire, hlength⟩ := exists_wireAfter_beginEvents D s.trace.length s.pins
      (functionFlags lines fontSize)
    exact ⟨count_setMode_beginEvents D _ _, count_setMode_beginEvents D _ _, event, transfers,
      hemitted.wire.trans (congrArg (s.wire ++ ·) hwire), hlength⟩

end Sys2Proof.Machine
end

/-! ### What the display operations send and which flag words they write -/

section
namespace Sys2Proof.Machine

open Sys2Proof

/-! #### Operations that write none of the Display State -/

theorem sent_send (s : State) (v : Byte) (rs : Rs) :
    Sent s ((s.transaction (send s.cfg v rs)).returning .none) (send s.cfg v rs) [(rs, v)] 224 := by
  simpa using sent_transaction s [(rs, v)] []

/-- A display operation whose body is one byte (43_display_ops.md R175, R176, R178). -/
theorem statelessOp_of_send {i : Instr} {v : Byte} {rs : Rs}
    (hexec : ∀ s, exec i s = displayOp s fun s => send s.cfg v rs) :
    StatelessOp i (fun s => send s.cfg v rs) (fun _ => [(rs, v)]) 224 :=
  statelessOp_of_displayOp [] hexec (fun _ => by simp) fun _ => rfl

/-- A display operation whose body is a slow command and its wait (43_display_ops.md R161, R162). -/
theorem statelessOp_of_slowCmd {i : Instr} {v : Byte}
    (hexec : ∀ s, exec i s = displayOp s fun s => cmd s.cfg v ++ [.delay T_SLOW_CMD_US]) :
    StatelessOp i (fun s => cmd s.cfg v ++ [.delay T_SLOW_CMD_US]) (fun _ => [(.cmd, v)]) 2224 :=
  statelessOp_of_displayOp [T_SLOW_CMD_US] hexec (fun _ => by simp [cmd]) fun _ => rfl

/-- Settles O25: each is its command byte and the wait, in one transaction. -/
theorem clearAndHomeSendTheirCodes : Obligations.ClearAndHomeSendTheirCodes :=
  ⟨statelessOp_of_slowCmd fun _ => rfl, statelessOp_of_slowCmd fun _ => rfl⟩

/-- Settles O30: each is one command byte. -/
theorem scrollsAreStateless : Obligations.ScrollsAreStateless :=
  ⟨statelessOp_of_send fun _ => rfl, statelessOp_of_send fun _ => rfl⟩

/-- Settles O32: the operand is the one byte sent. -/
theorem writeSendsItsByteAsData : Obligations.WriteSendsItsByteAsData :=
  fun _ => statelessOp_of_send fun _ => rfl

/-! #### Operations that write the Display State -/

/-- A change of `displaycontrol` that is re-sent is a toggle by that change (43_display_ops.md R179): the transaction runs
from the changed state, whose pins, trace and wire are those of the old one. -/
theorem controlToggle_of_displayControlOp {i : Instr} {change : Byte → Byte}
    (hexec : ∀ s, exec i s = displayControlOp s change) : ControlToggle i change :=
  ⟨checksFirst_of_whenReady hexec, fun s hr =>
    ⟨_, (hexec s).trans (displayControlOp_of_ready hr change), rfl, sent_send { s with displaycontrol := _ } _ _,
      rfl, rfl, rfl, rfl, displayOpFrame_transaction { s with displaycontrol := _ } _⟩⟩

/-- The same for `displaymode`. -/
theorem entryToggle_of_entryModeOp {i : Instr} {change : Byte → Byte}
    (hexec : ∀ s, exec i s = entryModeOp s change) : EntryToggle i change :=
  ⟨checksFirst_of_whenReady hexec, fun s hr =>
    ⟨_, (hexec s).trans (entryModeOp_of_ready hr change), rfl, sent_send { s with displaymode := _ } _ _,
      rfl, rfl, rfl, rfl, displayOpFrame_transaction { s with displaymode := _ } _⟩⟩

/-- Settles O28: setting a flag is an `or` with its bit, clearing one an `and` with the bit's complement, which the constants
compute to the masks stated. -/
theorem displayControlTogglesResendTheWord : Obligations.DisplayControlTogglesResendTheWord := by
  refine ⟨?_, ?_, ?_, ?_, ?_, ?_⟩ <;> exact controlToggle_of_displayControlOp fun _ => rfl

/-- Settles O29: the same for the entry mode's flags. -/
theorem entryModeTogglesResendTheWord : Obligations.EntryModeTogglesResendTheWord := by
  refine ⟨?_, ?_, ?_, ?_⟩ <;> exact entryToggle_of_entryModeOp fun _ => rfl

/-- Settles O27: in a READY block the operation is one update of the table. -/
theorem setRowOffsetsWritesOnlyTheTable : Obligations.SetRowOffsetsWritesOnlyTheTable := by
  intro r0 r1 r2 r3
  have hexec (s : State) : exec (.setRowOffsets r0 r1 r2 r3) s =
      whenReady s fun s => { s with rowOffsets := ⟨r0, r1, r2, r3⟩ }.returning .none := rfl
  refine ⟨checksFirst_of_whenReady hexec, fun s hr => ⟨_, (hexec s).trans (whenReady_of_ready hr _), ?_⟩⟩
  simp [RowOffsets.get, SameButtons, SameControl, SamePins, SameController, SameInputs]

end Sys2Proof.Machine
end

/-! ### The button automaton and its runs -/

section
namespace Sys2Proof.Machine

open Sys2Proof

/-! #### One reading (44_buttons.md R211 to R214) -/

section Arms

variable {r : Button} {l : Level}

/-- The automaton does not look at `run` while the level stays as accepted. -/
theorem stepButton_of_unchanged (h : l = r.last) (n : Byte) : stepButton { r with run := n } l = stepButton r l := by
  simp [stepButton, h]

theorem stepButton_of_released (h : r.last = .high) : stepButton r .high = { r with run := 0#8 } := by
  simp [stepButton, h]

theorem stepButton_of_held (h : r.last = .low) (hrep : r.rep ≠ 1#8) :
    stepButton r .low = { r with run := 0#8, rep := r.rep - 1#8 } := by
  have hne : r.rep - 1#8 ≠ 0#8 := by bv_omega
  simp [stepButton, h, hne]

theorem stepButton_of_repeat (h : r.last = .low) (hrep : r.rep = 1#8) :
    stepButton r .low = { r with run := 0#8, rep := 30#8, latched := true } := by
  simp [stepButton, h, hrep, REPEAT_STEADY]

theorem stepButton_of_accepted (h : l ≠ r.last) (hrun : 10 < r.run.toNat) :
    stepButton r l = ⟨l, 0#8, 100#8, r.latched || l == .low⟩ := by
  have hlt : DEBOUNCE_THRESHOLD < r.run := hrun
  cases l <;> simp [stepButton, h, hlt, REPEAT_INITIAL]

theorem stepButton_of_candidate (h : l ≠ r.last) (hrun : r.run.toNat ≤ 10) :
    stepButton r l = { r with run := r.run + 1#8 } := by
  have hnlt : ¬ DEBOUNCE_THRESHOLD < r.run := Nat.not_lt.2 hrun
  simp [stepButton, h, hnlt]

end Arms

/-- Settles O34: an unchanged level is HIGH, LOW before the countdown's end, or LOW at its end; a level that differs is
accepted or counted. -/
theorem automatonArms : Obligations.AutomatonArms := by
  intro r l
  refine ⟨?_, ?_, ?_, ?_, stepButton_of_accepted, stepButton_of_candidate⟩
  · intro h
    cases l with
    | high => simp [stepButton_of_released h.symm]
    | low =>
      by_cases hrep : r.rep = 1#8
      · simp [stepButton_of_repeat h.symm hrep]
      · simp [stepButton_of_held h.symm hrep]
  · rintro h rfl
    simp [stepButton_of_released h.symm]
  · rintro h rfl hrep
    simp [stepButton_of_held h.symm hrep]
  · rintro h rfl hrep
    simp [stepButton_of_repeat h.symm hrep]

/-! #### Debouncing (44_buttons.md R217) -/

/-- While a level that differs is not yet accepted, every tick of it counts `run` up and does nothing else. -/
theorem iterate_stepButton_candidate {r : Button} {l : Level} (h : l ≠ r.last) {k : Nat} (hk : r.run.toNat + k ≤ 11) :
    (fun x => stepButton x l)^[k] r = { r with run := BitVec.ofNat 8 (r.run.toNat + k) } := by
  induction k with
  | zero => simp
  | succ k ih =>
    have hrun : (BitVec.ofNat 8 (r.run.toNat + k)).toNat ≤ 10 := by
      rw [BitVec.toNat_ofNat]
      omega
    rw [Function.iterate_succ_apply', ih (by omega), ← Nat.add_assoc, BitVec.ofNat_add (r.run.toNat + k)]
    exact stepButton_of_candidate (r := { r with run := BitVec.ofNat 8 (r.run.toNat + k) }) h hrun

/-- Settles O35: the ticks before the last count `run` up to 11, which the last finds above the threshold. -/
theorem debounceLatency : Obligations.DebounceLatency := by
  intro r l h hrun
  refine ⟨fun k hk => iterate_stepButton_candidate h (by omega), ?_⟩
  have hcounted : (fun x => stepButton x l)^[11 - r.run.toNat] r = { r with run := 11#8 } := by
    rw [iterate_stepButton_candidate h (by omega), Nat.add_sub_cancel' hrun]
  rw [show 12 - r.run.toNat = (11 - r.run.toNat) + 1 by omega, Function.iterate_succ_apply', hcounted]
  exact stepButton_of_accepted (r := { r with run := 11#8 }) h (Nat.lt_succ_self 10)

/-! #### Repeating (44_buttons.md R218) -/

/-- `rep` after `k` ticks at which a button that was just accepted is held: 100 down to 1, then 30 down to 1
again and again. -/
def repeatCountdown (k : Nat) : Nat := if k < 100 then 100 - k else 30 - (k - 100) % 30

theorem repeatCountdown_range (k : Nat) : 1 ≤ repeatCountdown k ∧ repeatCountdown k ≤ 100 := by
  unfold repeatCountdown
  split <;> omega

theorem repeatCountdown_succ (k : Nat) :
    repeatCountdown (k + 1) = if repeatCountdown k = 1 then 30 else repeatCountdown k - 1 := by
  unfold repeatCountdown
  split_ifs <;> omega

theorem repeatCountdown_eq_one_iff (k : Nat) : repeatCountdown k = 1 ↔ 100 ≤ k + 1 ∧ (k + 1 - 100) % 30 = 0 := by
  unfold repeatCountdown
  split <;> omega

theorem rep_stepButton_low {r : Button} (h : r.last = .low) :
    (stepButton r .low).rep = if r.rep = 1#8 then 30#8 else r.rep - 1#8 := by
  split_ifs with hrep
  · rw [stepButton_of_repeat h hrep]
  · rw [stepButton_of_held h hrep]

theorem last_stepButton_low {r : Button} (h : r.last = .low) : (stepButton r .low).last = .low := by
  by_cases hrep : r.rep = 1#8
  · simp [stepButton_of_repeat h hrep, h]
  · simp [stepButton_of_held h hrep, h]

theorem latched_stepButton_low {r : Button} (h : r.last = .low) :
    (stepButton r .low).latched = (r.latched || decide (r.rep = 1#8)) := by
  by_cases hrep : r.rep = 1#8
  · simp [stepButton_of_repeat h hrep, hrep]
  · simp [stepButton_of_held h hrep, hrep]

/-- A held button stays held, and its countdown runs as `repeatCountdown` says. -/
theorem iterate_stepButton_held {r : Button} (h : r.last = .low) (hrep : r.rep = 100#8) (k : Nat) :
    ((fun x => stepButton x .low)^[k] r).last = .low ∧
      ((fun x => stepButton x .low)^[k] r).rep.toNat = repeatCountdown k := by
  induction k with
  | zero => exact ⟨h, by simp [hrep, repeatCountdown]⟩
  | succ k ih =>
    obtain ⟨hlast, hcount⟩ := ih
    have hrange := repeatCountdown_range k
    rw [Function.iterate_succ_apply', rep_stepButton_low hlast, repeatCountdown_succ, ← hcount]
    refine ⟨last_stepButton_low hlast, ?_⟩
    split_ifs <;> bv_omega

/-- Settles O36: the latch is set when the countdown stands at 1; ticks at HIGH move `run` alone, which a LOW
tick ignores. -/
theorem repeatCadence : Obligations.RepeatCadence := by
  refine ⟨fun r k h _ hrep => ?_, fun r n h hrun hn => ?_⟩
  · obtain ⟨hlast, hcount⟩ := iterate_stepButton_held h hrep k
    refine (latched_stepButton_low (r := { (fun x => stepButton x .low)^[k] r with latched := false }) hlast).trans ?_
    rw [Bool.false_or, decide_eq_decide, ← repeatCountdown_eq_one_iff, ← hcount]
    exact BitVec.toNat_inj.symm
  · rw [iterate_stepButton_candidate (by simp [h]) (by simpa [hrun] using hn)]
    exact stepButton_of_unchanged h.symm _

end Sys2Proof.Machine
end

/-! ### One call of the sampling routine -/

section
namespace Sys2Proof.Machine

open Sys2Proof

/-! #### Draws -/

theorem State.drawRead_level {s : State} {l : Level} (h : s.readInputs[0]? = some l) (p : PinId) :
    (s.drawRead p).1 = l := by
  unfold State.drawRead
  split <;> simp_all

theorem State.drawMillis_time {s : State} {m : Millis16} (h : s.millisInputs[0]? = some m) : s.drawMillis.1 = m := by
  unfold State.drawMillis
  split <;> simp_all

/-! #### A tick (44_buttons.md R210, R216) -/

/-- What ticking these buttons does to a state: the `k`-th of them reads the `k`-th input, and each steps its own record on
its own reading. -/
structure Ticked (bs : List (Fin 5)) (levels : Fin 5 → Level) (s t : State) : Prop where
  levels_eq : ∀ (k : Nat) (b : Fin 5) (l : Level), bs[k]? = some b → s.readInputs[k]? = some l → levels b = l
  readInputs : t.readInputs = s.readInputs.drop bs.length
  stepped : ∀ b ∈ bs, t.btn.get b = stepButton (s.btn.get b) (levels b)
  others : ∀ b ∉ bs, t.btn.get b = s.btn.get b
  trace : t.trace = s.trace ++ bs.map (fun b => .read (s.cfg.buttonPin.get b) (levels b))

/-- Ticking one more button first, on the level it draws. -/
theorem Ticked.cons {b : Fin 5} {bs : List (Fin 5)} (hb : b ∉ bs) {levels : Fin 5 → Level} {s t : State}
    (h : Ticked bs levels (s.tickButton b) t) :
    Ticked (b :: bs) (Function.update levels b (s.drawRead (s.cfg.buttonPin.get b)).1) s t := by
  obtain ⟨htrace, -, -, hinputs⟩ := s.drawRead_spec (s.cfg.buttonPin.get b)
  have hne {c : Fin 5} (hc : c ∈ bs) : c ≠ b := fun hcb => hb (hcb ▸ hc)
  have hinputs' : (s.tickButton b).readInputs = s.readInputs.tail := hinputs
  have hbtn : (s.tickButton b).btn = s.btn.set b (stepButton (s.btn.get b) (s.drawRead (s.cfg.buttonPin.get b)).1) := by
    simp [State.tickButton]
  refine ⟨fun k c l hk hl => ?_, ?_, fun c hc => ?_, fun c hc => ?_, ?_⟩
  · cases k with
    | zero =>
      obtain rfl : b = c := by simpa using hk
      simp [State.drawRead_level hl]
    | succ k =>
      have hk' : bs[k]? = some c := by simpa using hk
      rw [Function.update_of_ne (hne (List.mem_of_getElem? hk'))]
      exact h.levels_eq k c l hk' (by simpa [hinputs'] using hl)
  · simp [h.readInputs, hinputs', Nat.add_comm]
  · obtain rfl | hc := List.mem_cons.1 hc
    · simp [h.others c hb, hbtn]
    · simp [h.stepped c hc, hbtn, Buttons.get_set_other (hne hc), hne hc]
  · obtain ⟨hcb, hc⟩ := List.ne_and_not_mem_of_not_mem_cons hc
    rw [h.others c hc, hbtn, Buttons.get_set_other hcb]
  · have htrace' : (s.tickButton b).trace = s.trace ++ [.read (s.cfg.buttonPin.get b) _] := htrace
    have hmap : bs.map (fun c => Event.read (s.cfg.buttonPin.get c)
        (Function.update levels b (s.drawRead (s.cfg.buttonPin.get b)).1 c)) =
        bs.map (fun c => Event.read (s.cfg.buttonPin.get c) (levels c)) :=
      List.map_congr_left fun c hc => by rw [Function.update_of_ne (hne hc)]
    rw [h.trace, htrace', List.map_cons, hmap, Function.update_self, State.tickButton_cfg, List.append_assoc]
    rfl

theorem exists_ticked {bs : List (Fin 5)} (hbs : bs.Nodup) (s : State) :
    ∃ levels, Ticked bs levels s (bs.foldl State.tickButton s) := by
  induction bs generalizing s with
  | nil => exact ⟨fun _ => .high, by simp, rfl, by simp, fun _ _ => rfl, by simp⟩
  | cons b bs ih =>
    obtain ⟨hb, hbs⟩ := List.nodup_cons.1 hbs
    obtain ⟨levels, h⟩ := ih hbs (s.tickButton b)
    exact ⟨_, h.cons hb⟩

/-! #### The gate (44_buttons.md R210) -/

/-- With the bus in INPUT the sampling routine is the gate and the tick of all five buttons. -/
theorem sampleEffect_sample {s : State} (hbus : s.busMode = .input) : SampleEffect s s.sample := by
  obtain ⟨htrace, -, -, hmillis⟩ := s.drawMillis_spec
  have hfault := sample_fault_of_input hbus
  obtain ⟨hne, -⟩ | ⟨-, hlt, h⟩ | ⟨-, hge, h⟩ := s.sample_cases
  · exact absurd hbus hne
  · refine ⟨s.drawMillis.1, fun m hm => State.drawMillis_time hm, by rw [h, hmillis], fun _ => by simp [h, htrace],
      fun hge => absurd hlt (Nat.not_lt.2 hge), ?_⟩
    simp [SameDisplay, SameController, State.sample_pins, State.sample_wire, hfault]
  · refine ⟨s.drawMillis.1, fun m hm => State.drawMillis_time hm, by rw [h, State.tick_millisInputs, hmillis],
      fun hlt => absurd hlt (Nat.not_lt.2 hge), fun _ => ?_, ?_⟩
    · obtain ⟨levels, hticked⟩ :=
        exists_ticked (bs := [0, 1, 2, 3, 4]) (by decide) { s.drawMillis.2 with tLast := s.drawMillis.1 }
      have hmem : ∀ b : Fin 5, b ∈ ([0, 1, 2, 3, 4] : List (Fin 5)) := by decide
      have hindex : ∀ b : Fin 5, ([0, 1, 2, 3, 4] : List (Fin 5))[b.val]? = some b := by decide
      rw [h]
      exact ⟨levels, fun b l hl => hticked.levels_eq b.val b l (hindex b) (by simpa using hl),
        hticked.readInputs.trans (by simp), by simp, fun b => (hticked.stepped b (hmem b)).trans (by simp),
        hticked.trace.trans (by simp [htrace, ButtonPins.get])⟩
    · simp [SameDisplay, SameController, State.sample_pins, State.sample_wire, hfault]

/-- Settles O37: in INPUT the operation is one call of the sampling routine. -/
theorem sampleGatesThenTicks : Obligations.SampleGatesThenTicks := by
  have hexec (s : State) : exec .sampleButtons s = whenReady s fun s =>
      if s.busMode ≠ .input then s.raise .busNotInput else s.sample.returning .none := rfl
  refine ⟨checksFirst_of_whenReady hexec, fun s hr hbus => ?_, fun s hr hbus => ?_⟩
  · rw [hexec, whenReady_of_ready hr, if_pos hbus]
    rfl
  · rw [hexec, whenReady_of_ready hr, if_neg (not_not.2 hbus)]
    exact ⟨_, rfl, rfl, s.sample_waitBtn.trans hr.1.2, sampleEffect_sample hbus⟩

end Sys2Proof.Machine
end

/-! ### The button queries and the wait -/

section
namespace Sys2Proof.Machine

open Sys2Proof

/-! #### Queries (44_buttons.md R220, R224, R226) -/

/-- The button queries check the phase, then the index (60_exceptions.md R243). -/
theorem checksIndex_of_withButton {i : Instr} {b : Byte} {body : Fin 5 → State → State}
    (h : ∀ s, exec i s = withButton s b body) : ChecksIndex i b :=
  ⟨checksFirst_of_whenReady h, fun s hr hb => (h s).trans (withButton_of_ge hr hb _)⟩

@[simp] theorem Buttons.set_get_self (v : Buttons) (b : Fin 5) : v.set b (v.get b) = v := by
  fin_cases b <;> rfl

theorem State.clearLatch_get_other {b c : Fin 5} (h : c ≠ b) (s : State) :
    (s.clearLatch b).btn.get c = s.btn.get c := Buttons.get_set_other h _ _

/-- Clearing a latch that is clear changes nothing. -/
theorem State.clearLatch_of_clear {s : State} {b : Fin 5} (h : (s.btn.get b).latched = false) : s.clearLatch b = s := by
  have hrecord : { s.btn.get b with latched := false } = s.btn.get b := by rw [← h]
  simp [State.clearLatch, hrecord]

/-- Settles O38: the second call finds the latch the first has cleared, and clears it to no effect. -/
theorem takeDrainsTheLatchOnce : Obligations.TakeDrainsTheLatchOnce := by
  intro b
  have hexec (s : State) : exec (.takePressedEdge b) s =
      withButton s b fun b s => (s.clearLatch b).returning (.bool (s.btn.get b).latched) := rfl
  refine ⟨checksIndex_of_withButton hexec, fun s h hr => ?_⟩
  have hcleared (r : Result) :
      (((s.clearLatch ⟨b.toNat, h⟩).returning r).btn.get ⟨b.toNat, h⟩).latched = false := by simp
  refine ⟨_, _, (hexec s).trans (withButton_of_lt hr h _), (hexec _).trans (withButton_of_lt ?_ h _), rfl, ?_, ?_,
    by simp, fun c hc => State.clearLatch_get_other hc s, rfl, rfl, ?_⟩
  · exact hr
  · simp
  · rw [State.clearLatch_of_clear (hcleared _)]
    rfl
  · simp [QueryFrame, SameDisplay, SameControl, SameController]

/-- Settles O39: IS_HELD looks at the record alone, RAW_LEVEL is one draw. -/
theorem heldAndRawQueries : Obligations.HeldAndRawQueries := by
  intro b
  have hheld (s : State) : exec (.isHeld b) s =
      withButton s b fun b s => s.returning (.bool ((s.btn.get b).last == .low)) := rfl
  have hraw (s : State) : exec (.rawLevel b) s = withButton s b fun b s =>
      if s.busMode ≠ .input then s.raise .busNotInput
      else (s.drawRead (s.cfg.buttonPin.get b)).2.returning (.level (s.drawRead (s.cfg.buttonPin.get b)).1) := rfl
  refine ⟨checksIndex_of_withButton hheld, checksIndex_of_withButton hraw, fun s h hr =>
    ⟨fun hbus => ?_, ?_, fun hbus => ?_⟩⟩
  · rw [hraw, withButton_of_lt hr h, if_pos hbus]
    rfl
  · refine ⟨_, (hheld s).trans (withButton_of_lt hr h _), ?_, rfl, rfl, rfl, ?_⟩
    · simp [beq_eq_decide]
    · simp [QueryFrame, SameDisplay, SameControl, SameController]
  · obtain ⟨htrace, hpins, hwire, hinputs⟩ := s.drawRead_spec (s.cfg.buttonPin.get ⟨b.toNat, h⟩)
    rw [hraw, withButton_of_lt hr h, if_neg (not_not.2 hbus)]
    refine ⟨_, _, rfl, rfl, fun l hl => State.drawRead_level hl _, htrace, by simp, hinputs, ?_⟩
    simp [QueryFrame, SameDisplay, SameControl, SameController, hpins, hwire]

/-! #### The end of a wait (44_buttons.md R222) -/

/-- A wait that returns consumes its latch iff the parameter says so. -/
theorem State.finishWait_get (s : State) (b : Fin 5) : (s.finishWait b).btn.get b =
    { s.btn.get b with latched := (s.btn.get b).latched && !s.cfg.waitConsumesLatch } := by
  unfold State.finishWait
  split <;> simp [*]

theorem State.finishWait_get_other {b c : Fin 5} (h : c ≠ b) (s : State) :
    (s.finishWait b).btn.get c = s.btn.get c := by
  obtain hs | hs := s.finishWait_eq b <;> rw [hs]
  exact State.clearLatch_get_other h s

/-- Settles O40: the entry step looks at the latch, and returns or leaves the wait pending. -/
theorem waitEntry : Obligations.WaitEntry := by
  intro b
  have hexec (s : State) : exec (.waitPressedEdge b) s = withButton s b fun b s =>
      if (s.btn.get b).latched then (s.finishWait b).returning .none else { s with waitBtn := some b } := rfl
  refine ⟨checksIndex_of_withButton hexec, fun s h hr => ⟨_, (hexec s).trans (withButton_of_lt hr h _), ?_⟩⟩
  cases hlatch : (s.btn.get ⟨b.toNat, h⟩).latched with
  | false => simp
  | true =>
    have hother (c : Fin 5) (hc : ¬ c = ⟨b.toNat, h⟩) := State.finishWait_get_other hc s
    simpa [hr.1.2, State.finishWait_get, hlatch, QueryFrame, SameDisplay, SameControl, SameController] using hother

/-! #### Iterations of a wait (44_buttons.md R222) -/

/-- The next step is an iteration of a wait for `b`. -/
structure State.Waits (s : State) (b : Fin 5) : Prop where
  wireDone : nextWire s.lcd.dl s.wire = .waiting
  noFault : s.fault = none
  waitBtn : s.waitBtn = some b

section Waits

variable {s : State} {b : Fin 5} (h : s.Waits b)
include h

theorem State.Waits.step_of_low (hl : (s.btn.get b).last = .low) :
    step s = .next (({ s with waitBtn := none }.finishWait b).returning .none) := by
  simp only [step, fetch, h.wireDone, fetchHost, h.noFault, h.waitBtn, waitIter, if_pos hl]

theorem State.Waits.step_of_high (hl : (s.btn.get b).last = .high) : step s = .next s.sample := by
  have hne : (s.btn.get b).last ≠ .low := by simp [hl]
  simp only [step, fetch, h.wireDone, fetchHost, h.noFault, h.waitBtn, waitIter, if_neg hne]

/-- The sample of an iteration leaves the wait pending. -/
theorem State.Waits.sample (hbus : s.busMode = .input) : s.sample.Waits b where
  wireDone := by simpa [State.sample_wire] using h.wireDone
  noFault := (sample_fault_of_input hbus).trans h.noFault
  waitBtn := by simpa using h.waitBtn

end Waits

/-- Settles O41: the accepted level says which of the two an iteration does. -/
theorem waitIteration : Obligations.WaitIteration := by
  intro s b hw hf hb
  have h : s.Waits b := ⟨hw, hf, hb⟩
  refine ⟨fun hl => ?_, fun hl hbus => ?_⟩
  · refine ⟨_, h.step_of_low hl, by simp, rfl, by simp, State.finishWait_get _ b,
      fun c hc => State.finishWait_get_other hc _, ?_⟩
    simp [SameDisplay, SameController, SameInputs, SamePins, hf]
  · exact ⟨_, h.step_of_high hl, (h.sample hbus).waitBtn, by simp, sampleEffect_sample hbus⟩

/-! #### A wait for a button that is pressed and stays so -/

/-- The inputs of the next tick, and those of the ticks after it. -/
theorem feedsLow_succ {b : Fin 5} {n : Nat} {last : Millis16} {ms : List Millis16} {ls : List Level}
    (h : FeedsLow b (n + 1) last ms ls) :
    ∃ m, ms[0]? = some m ∧ 5 ≤ (m - last).toNat ∧ ls[b.val]? = some .low ∧ FeedsLow b n m ms.tail (ls.drop 5) := by
  match ms, ls, h with
  | m :: _, _ :: _ :: _ :: _ :: _ :: _, ⟨hgate, hlow, hrest⟩ =>
    refine ⟨m, rfl, hgate, ?_, hrest⟩
    fin_cases b <;> simpa using hlow

/-- A sample fed with LOW for a button is a tick of it at LOW. -/
theorem sample_of_feedsLow {s : State} {b : Fin 5} {n : Nat} (hbus : s.busMode = .input)
    (hfed : FeedsLow b (n + 1) s.tLast s.millisInputs s.readInputs) :
    s.sample.btn.get b = stepButton (s.btn.get b) .low ∧
      FeedsLow b n s.sample.tLast s.sample.millisInputs s.sample.readInputs := by
  obtain ⟨m, hm, hgate, hlow, hrest⟩ := feedsLow_succ hfed
  obtain ⟨now, hnow, hmillis, -, htick, -⟩ := sampleEffect_sample hbus
  obtain rfl := hnow m hm
  obtain ⟨levels, hlevels, hinputs, htLast, hstepped, -⟩ := htick hgate
  rw [hstepped, hlevels b .low hlow, hmillis, hinputs, htLast]
  exact ⟨rfl, hrest⟩

/-- While the button is not accepted as pressed, `n` iterations of a wait fed with LOW are `n` ticks of the button at LOW. -/
theorem exists_run_of_feedsLow {s : State} {b : Fin 5} {n : Nat} (h : s.Waits b) (hbus : s.busMode = .input)
    (hfed : FeedsLow b n s.tLast s.millisInputs s.readInputs)
    (hhigh : ∀ k < n, ((fun x => stepButton x .low)^[k] (s.btn.get b)).last = .high) :
    ∃ t, Host.Core.run core n s = .next t ∧ t.Waits b ∧ t.btn.get b = (fun x => stepButton x .low)^[n] (s.btn.get b) ∧
      t.cfg = s.cfg ∧ t.hostOps = s.hostOps ∧ t.hostLines = s.hostLines := by
  induction n generalizing s with
  | zero => exact ⟨s, rfl, h, rfl, rfl, rfl, rfl⟩
  | succ n ih =>
    obtain ⟨hstepped, hrest⟩ := sample_of_feedsLow hbus hfed
    obtain ⟨t, hrun, ht, hbtn, hcfg, hops, hlines⟩ := ih (h.sample hbus) (by simpa using hbus) hrest fun k hk => by
      rw [hstepped]
      exact hhigh (k + 1) (by omega)
    refine ⟨t, (run_succ_of_step (h.step_of_high (hhigh 0 n.succ_pos)) n).trans hrun, ht, ?_, ?_, ?_, ?_⟩
    · rw [hbtn, hstepped, Function.iterate_succ_apply]
    · simpa using hcfg
    · simpa using hops
    · simpa using hlines

/-- A run of `n + k` steps is one of `n` and then one of `k`. -/
theorem run_add {s t : State} {n : Nat} (h : Host.Core.run core n s = .next t) (k : Nat) :
    Host.Core.run core (n + k) s = Host.Core.run core k t := by
  induction n generalizing s with
  | zero =>
    cases h
    rw [Nat.zero_add]
  | succ n ih =>
    rw [Nat.succ_add]
    simp only [Host.Core.run] at h ⊢
    cases hstep : core.step s with
    | next u =>
      simp only [hstep] at h ⊢
      exact ih h
    | fault _ | refused _ => simp [hstep] at h

/-- Settles O42: by O35 the twelfth tick accepts the press, which the thirteenth iteration finds. -/
theorem waitReturnsAfterThirteenIterations : Obligations.WaitReturnsAfterThirteenIterations := by
  intro s b hw hf hb hbus hlast hrun hfed
  obtain ⟨hcounting, haccepted⟩ := debounceLatency (s.btn.get b) .low (by simp [hlast]) (by simp [hrun])
  simp only [hrun, BitVec.toNat_ofNat, Nat.zero_mod, Nat.sub_zero] at hcounting haccepted
  obtain ⟨t, hrunt, ht, hbtn, hcfg, hops, hlines⟩ :=
    exists_run_of_feedsLow ⟨hw, hf, hb⟩ hbus hfed fun k hk => by simp [hcounting k hk, hlast]
  have hpressed : t.btn.get b = ⟨.low, 0#8, 100#8, true⟩ := by simpa using hbtn.trans haccepted
  have hends := run_succ_of_step (ht.step_of_low (by rw [hpressed])) 0
  refine ⟨t, _, hrunt, (run_add hrunt 1).trans hends, ht.waitBtn, hpressed, ?_⟩
  simp [State.finishWait_get, hpressed, hcfg, hops, hlines, ht.noFault]

end Sys2Proof.Machine
end

/-! ### Faults: what raises them, and what they stop -/

section
namespace Sys2Proof.Machine

open Sys2Proof

/-! #### A faulted block (60_exceptions.md R241) -/

section Faulted

variable {s : State} {code : FaultCode} (hf : s.fault = some code)
include hf

theorem hostOp_of_fault (body : State → State) : hostOp s body = .fault (.noStep code) := by
  simp only [hostOp, hf]

theorem exec_of_fault {i : Instr} (hi : i.isWire = false) : exec i s = .fault (.noStep code) := by
  obtain ⟨body, hbody, -⟩ := exists_hostOp_of_isHost hi
  rw [hbody, hostOp_of_fault hf]

theorem waitIter_of_fault (b : Fin 5) : waitIter b s = .fault (.noStep code) := by
  simp only [waitIter, hf]

theorem step_of_fault (hw : nextWire s.lcd.dl s.wire = .waiting) : step s = .fault (.noStep code) := by
  simp only [step, fetch, hw, fetchHost, hf]

end Faulted

/-- Settles O8: every host operation stands behind the fault check of `hostOp`, WAIT_ITER and the block's step behind their
own. -/
theorem faultedBlockHasNoStep : Obligations.FaultedBlockHasNoStep :=
  fun _ _ hf => ⟨fun _ => exec_of_fault hf, waitIter_of_fault hf, step_of_fault hf⟩

/-! #### The phase check (60_exceptions.md R242) -/

/-- Every host operation but BEGIN is a body behind the phase check. -/
theorem exists_whenReady_of_isHost {i : Instr} (hi : i.isWire = false) (hbegin : i.mnemonic ≠ "BEGIN") :
    ∃ body, ∀ s, exec i s = whenReady s body := by
  cases i with
  | beginInit _ _ _ => exact absurd rfl hbegin
  | clear | home | setCursor _ _ | setRowOffsets _ _ _ _ | displayOn | displayOff | cursorOn | cursorOff | blinkOn
  | blinkOff | leftToRight | rightToLeft | autoscrollOn | autoscrollOff | scrollLeft | scrollRight | createChar _ _
  | write _ | sampleButtons | takePressedEdge _ | waitPressedEdge _ | isHeld _ | rawLevel _ => exact ⟨_, fun _ => rfl⟩
  | _ => cases hi

/-- Settles O12: the phase check of all operations but BEGIN, begin's own, and the effect of an instruction on the phase. -/
theorem phaseIsCheckedFirst : Obligations.PhaseIsCheckedFirst := by
  refine ⟨fun i s hi hbegin hc hp => ?_,
    fun s columns lines fontSize hc => exec_beginInit_of_begun hc columns lines fontSize,
    fun i s t h hne => (exec_effect h).phase.resolve_left hne⟩
  obtain ⟨body, hbody⟩ := exists_whenReady_of_isHost hi hbegin
  exact (hbody s).trans (whenReady_of_notReady hc hp body)

/-! #### The index and bus-mode checks (60_exceptions.md R243, R245) -/

/-- Settles O13: each query is a body behind the index check. -/
theorem buttonIndexIsChecked : Obligations.ButtonIndexIsChecked := fun _ =>
  ⟨checksIndex_of_withButton fun _ => rfl, checksIndex_of_withButton fun _ => rfl, checksIndex_of_withButton fun _ => rfl,
    checksIndex_of_withButton fun _ => rfl⟩

theorem sample_of_bus_ne_input {s : State} (hbus : s.busMode ≠ .input) : s.sample = s.raise .busNotInput := if_pos hbus

/-- Settles O15: SAMPLE_BUTTONS by O37's guard clause, RAW_LEVEL by O39's, the routine by its own guard. -/
theorem busModeIsCheckedBeforeAnyRead : Obligations.BusModeIsCheckedBeforeAnyRead := by
  intro s hr hbus
  obtain ⟨-, hsample, -⟩ := sampleGatesThenTicks
  refine ⟨hsample s hr hbus, fun b hb => ?_, sample_of_bus_ne_input hbus⟩
  obtain ⟨-, -, hqueries⟩ := heldAndRawQueries b
  obtain ⟨hraw, -⟩ := hqueries s hb hr
  exact hraw hbus

/-! #### Precision (60_exceptions.md R248) -/

/-- Settles O16: of the effects of an instruction a raised fault is the only one that sets the register, but for a sample,
whose own guard SAMPLE_BUTTONS checks first: by O37's guard clause it raises instead of sampling. -/
theorem faultsArePrecise : Obligations.FaultsArePrecise := by
  intro i s t code h hnone hcode
  cases exec_effect h with
  | raised _ _ =>
    cases hcode
    rfl
  | sampled hr =>
    by_cases hbus : s.busMode = .input
    · simp [sample_fault_of_input hbus, hnone] at hcode
    · obtain ⟨-, hraises, -⟩ := sampleGatesThenTicks
      injection (hraises s hr hbus).symm.trans h with ht
      rw [← ht] at hcode ⊢
      cases hcode
      rfl
  | _ => simp [hnone] at hcode

/-! #### Construction (10_state.md R34; 60_exceptions.md R247) -/

/-- The check of the parameters, pair of pins by pair of pins. -/
theorem valid_iff_pins_apart (P : Params) :
    P.valid = true ↔
      P.rsPin ≠ P.enPin ∧ (∀ p ∈ P.dataPin.toList, p ≠ P.rsPin ∧ p ≠ P.enPin) ∧
        P.dataPin.d0 ≠ P.dataPin.d1 ∧ P.dataPin.d0 ≠ P.dataPin.d2 ∧ P.dataPin.d0 ≠ P.dataPin.d3 ∧
        P.dataPin.d1 ≠ P.dataPin.d2 ∧ P.dataPin.d1 ≠ P.dataPin.d3 ∧ P.dataPin.d2 ≠ P.dataPin.d3 ∧
        ∀ b : Fin 5, P.buttonPin.get b ≠ P.rsPin ∧ P.buttonPin.get b ≠ P.enPin := by
  constructor
  · intro h
    have D := pinsApart_of_valid h
    refine ⟨D.rs_en, ?_, D.d0_d1, D.d0_d2, D.d0_d3, D.d1_d2, D.d1_d3, D.d2_d3, D.button⟩
    simp [DataPins.toList, D.rs_d0.symm, D.rs_d1.symm, D.rs_d2.symm, D.rs_d3.symm, D.en_d0.symm, D.en_d1.symm,
      D.en_d2.symm, D.en_d3.symm]
  · rintro ⟨hrs, hdata, h01, h02, h03, h12, h13, h23, hbutton⟩
    simp only [DataPins.toList, List.forall_mem_cons] at hdata
    obtain ⟨h0, h1, h2, h3, -⟩ := hdata
    simp [Params.valid, mem_buttonPins_iff, hbutton, hrs, h01, h02, h03, h12, h13, h23, h0.1.symm, h0.2.symm, h1.1.symm,
      h1.2.symm, h2.1.symm, h2.2.symm, h3.1.symm, h3.2.symm]

theorem construct_fault_iff (P : Params) : (State.construct P).fault = some .badConfig ↔ ¬ P.valid = true := by
  cases hv : P.valid <;> simp [State.construct, hv]

/-- Settles O17: construction looks at `Params.valid`; its wire is empty, so the next step is the block's, which the fault
stops. -/
theorem constructionChecksThePins : Obligations.ConstructionChecksThePins := by
  intro P
  refine ⟨(construct_fault_iff P).trans (not_congr (valid_iff_pins_apart P)), fun ops hf => ?_⟩
  exact step_of_fault (s := { State.construct P with hostOps := ops }) hf rfl

end Sys2Proof.Machine
end

/-! ### Construction meets the invariants (70_reset_and_hazards.md R270, R271) -/

section
namespace Sys2Proof.Machine

open Sys2Proof

/-! #### What the invariants ask before begin

Most clauses of the invariants speak of a READY block; these lemmas say what is left of each in phase UNINIT. -/

theorem controlInv_of_uninit {s : State} (hp : s.phase = .uninit) (hwait : s.waitBtn = none)
    (hconfig : s.cfg.valid = true ∨ s.fault = some .badConfig) : s.ControlInv := by
  have hr : s.phase ≠ .ready := by simp [hp]
  exact {
    phaseSettled := by simp [hp]
    busInput := (absurd · hr)
    waitReady := (absurd hwait ·)
    configChecked := hconfig
    functionWord := (absurd · hr)
    controlWord := (absurd · hr)
    modeWord := (absurd · hr)
    someLine := (absurd · hr) }

theorem pinInv_of_uninit {s : State} (hp : s.phase = .uninit) : s.PinInv :=
  (pinInv_iff s).2 (by simp [hp])

theorem shadowInv_of_uninit {s : State} (hp : s.phase = .uninit) (hwire : s.wire = []) (hdl : s.lcd.dl = true) :
    s.ShadowInv :=
  (shadowInv_iff s).2 ⟨fun _ => ⟨hwire, hdl⟩, by simp [hp]⟩

theorem commandInv_of_uninit {s : State} (hp : s.phase = .uninit) (hlog : s.wireLog = []) : s.CommandInv :=
  ⟨fun _ => hlog, by simp [hp]⟩

/-! #### What holds of a block that has done nothing yet -/

theorem wireLog_of_trace_nil {s : State} (htrace : s.trace = []) : s.wireLog = [] := by
  simp [State.wireLog, htrace, wireAfter]

theorem replayInv_of_nothing_emitted {s : State} (htrace : s.trace = []) (hpins : s.pins = []) (hwire : s.wire = []) :
    s.ReplayInv where
  pinsReplay := by simp [hpins, htrace]
  pinsCanonical := by rw [hpins]; rfl
  wireSuffix := ⟨[], by simp [wireLog_of_trace_nil htrace, hwire]⟩

/-- Nothing is stored yet, and the address counter is at 0 of DDRAM. -/
theorem lcdInv_of_powerOn {s : State} (hlcd : s.lcd = .powerOn) : s.LcdInv := by
  constructor <;> rw [hlcd] <;> decide

theorem buttonsInRange_of_released {s : State} (hbtn : ∀ b, s.btn.get b = .released) : s.ButtonsInRange := fun b => by
  rw [hbtn b]
  rfl

theorem construct_btn_get (P : Params) (b : Fin 5) : (State.construct P).btn.get b = .released := by
  fin_cases b <;> rfl

/-- Settles O53: construction leaves the phase UNINIT, the pins checked, the records released, nothing emitted and the
controller at power-on, whatever the host and the platform will give. -/
theorem invariantsHoldAtConstruction : Obligations.InvariantsHoldAtConstruction := by
  intro P ops lines ls ms s
  have hconfig : s.cfg.valid = true ∨ s.fault = some .badConfig := (Classical.em _).imp_right (construct_fault_iff P).2
  exact ⟨buttonsInRange_of_released (construct_btn_get P), controlInv_of_uninit rfl rfl hconfig, pinInv_of_uninit rfl,
    replayInv_of_nothing_emitted rfl rfl rfl, lcdInv_of_powerOn rfl, shadowInv_of_uninit rfl rfl rfl,
    commandInv_of_uninit rfl (wireLog_of_trace_nil rfl)⟩

end Sys2Proof.Machine
end
